-- ==== Sys2Proof/Word.lean ====
section
/-!
DEFINITION. The words of the block and the small types its registers and ports are made of. Every quantity of the block is
unsigned (R6) and its arithmetic wraps at its width (R7), so a quantity is a bit vector.
-/

namespace Sys2Proof

/-- 32 bits: a host register, a command word, a counter half, `clk_hz` (R47). -/
abbrev Word := BitVec 32

/-- 64 bits: a counter, a sample, a value slot, the timer (R5). -/
abbrev Wide := BitVec 64

/-- 8 bits: the output register (R37). -/
abbrev Byte := BitVec 8

/-- The counter kinds: 0 = cycle, 1 = instruction-retired (R5, R19). -/
inductive Kind where
  | cycle
  | instret
deriving DecidableEq, Repr

/-- The halves of a 64-bit counter (R8, R19). -/
inductive Half where
  | low
  | high
deriving DecidableEq, Repr

/-- DELAY_MODE of R5 and R137. -/
inductive DelayMode where
  | calibrated
  | uncalibrated
deriving DecidableEq, Repr

/-- The eight encodings of WCR_STATE (R21). Encodings 5, 6 and 7 have no meaning: `step` refuses them. -/
inductive WcrState where
  /-- 0 = W_IDLE -/
  | idle
  /-- 1 = W_RD_H1, reads high -/
  | rdH1
  /-- 2 = W_RD_L, reads low -/
  | rdL
  /-- 3 = W_RD_H2, reads high again -/
  | rdH2
  /-- 4 = W_RD_L2, re-reads low -/
  | rdL2
  /-- encoding 5, never reached -/
  | undef5
  /-- encoding 6, never reached -/
  | undef6
  /-- encoding 7, never reached -/
  | undef7
deriving DecidableEq, Repr

/-- The eight encodings of RR_STATE (R28). Encodings 6 and 7 have no meaning: `step` refuses them. -/
inductive RrState where
  /-- 0 = R_IDLE -/
  | idle
  /-- 1 = R_FRAME -/
  | frame
  /-- 2 = R_PAUSE -/
  | pause
  /-- 3 = R_GAP, the inter-value pause -/
  | gap
  /-- 4 = R_DONE_WAIT -/
  | doneWait
  /-- 5 = R_HALTED -/
  | halted
  /-- encoding 6, never reached -/
  | undef6
  /-- encoding 7, never reached -/
  | undef7
deriving DecidableEq, Repr

/-- One host access as the bus ports present it (R18): `bus_we`, `bus_size`, `bus_addr`, `bus_wdata`. -/
structure Access where
  /-- `bus_we`: 1 = write, 0 = read -/
  we : Bool
  /-- `bus_size`: 0 = byte, 1 = halfword, 2 = word, 3 = reserved -/
  size : BitVec 2
  /-- `bus_addr`: byte offset within the window -/
  addr : BitVec 6
  /-- `bus_wdata`: the data of a write -/
  wdata : Word
deriving DecidableEq, Repr

end Sys2Proof
end

