-- ==== Sys2Proof/Syntax.lean ====
section
/-!
DEFINITION. The instructions of the block: one constructor for each of the 46 rows of spec/opcode_table.json. A row of format CMD is
a command word, that is a defined write of that word to CMD (R63, R76); a row of format BUS is one host access (R65).
-/

namespace Sys2Proof

/-- One instruction: a command (R68, R69) or a host access (R72, R113). -/
inductive Instr where
  /-- NOP (R171): `nop`, word 0x00000000. -/
  | nop
  /-- WCR_SAMPLE (R116): `wcr.sample k`, KIND = w[8]. -/
  | wcrSample (kind : Kind)
  /-- RR_IDLE (R140): `rr.idle`. -/
  | rrIdle
  /-- RR_SHOW (R142): `rr.show s`, SLOT = w[8]. -/
  | rrShow (slot : BitVec 1)
  /-- RR_SEQ (R144): `rr.seq N[, loop]`, CNT = N-1 = w[8], LOOP = w[9]. -/
  | rrSeq (cnt : BitVec 1) (loop : Bool)
  /-- RR_DONE (R163): `rr.done`. -/
  | rrDone
  /-- CLR_STATUS (R172): `clr.status`. -/
  | clrStatus
  /-- ILLEGAL (R173): every command word of R69, kept as it was written. -/
  | illegal (w : Word)
  /-- RD_CMD (R81): read of CMD, descriptor 0x080. -/
  | rdCmd
  /-- WR_CMD (R82): write of CMD, descriptor 0x180. -/
  | wrCmd (w : Word)
  /-- RD_STATUS (R83): read of STATUS, descriptor 0x084. -/
  | rdStatus
  /-- WR_STATUS (R84): write of STATUS, descriptor 0x184. -/
  | wrStatus (d : Word)
  /-- RD_WCR_RES_LO (R85): read of WCR_RES_LO, descriptor 0x088. -/
  | rdWcrResLo
  /-- WR_WCR_RES_LO (R86): write of WCR_RES_LO, descriptor 0x188. -/
  | wrWcrResLo (d : Word)
  /-- RD_WCR_RES_HI (R87): read of WCR_RES_HI, descriptor 0x08C. -/
  | rdWcrResHi
  /-- WR_WCR_RES_HI (R88): write of WCR_RES_HI, descriptor 0x18C. -/
  | wrWcrResHi (d : Word)
  /-- RD_WCR_H1 (R89): read of WCR_H1, descriptor 0x090. -/
  | rdWcrH1
  /-- WR_WCR_H1 (R90): write of WCR_H1, descriptor 0x190. -/
  | wrWcrH1 (d : Word)
  /-- RD_WCR_L1 (R91): read of WCR_L1, descriptor 0x094. -/
  | rdWcrL1
  /-- WR_WCR_L1 (R92): write of WCR_L1, descriptor 0x194. -/
  | wrWcrL1 (d : Word)
  /-- RD_WCR_H2 (R93): read of WCR_H2, descriptor 0x098. -/
  | rdWcrH2
  /-- WR_WCR_H2 (R94): write of WCR_H2, descriptor 0x198. -/
  | wrWcrH2 (d : Word)
  /-- RD_WCR_L2 (R95): read of WCR_L2, descriptor 0x09C. -/
  | rdWcrL2
  /-- WR_WCR_L2 (R96): write of WCR_L2, descriptor 0x19C. -/
  | wrWcrL2 (d : Word)
  /-- RD_RR_VAL0_LO (R97): read of RR_VAL0_LO, descriptor 0x0A0. -/
  | rdRrVal0Lo
  /-- WR_RR_VAL0_LO (R98): write of RR_VAL0_LO, descriptor 0x1A0. -/
  | wrRrVal0Lo (d : Word)
  /-- RD_RR_VAL0_HI (R99): read of RR_VAL0_HI, descriptor 0x0A4. -/
  | rdRrVal0Hi
  /-- WR_RR_VAL0_HI (R100): write of RR_VAL0_HI, descriptor 0x1A4. -/
  | wrRrVal0Hi (d : Word)
  /-- RD_RR_VAL1_LO (R101): read of RR_VAL1_LO, descriptor 0x0A8. -/
  | rdRrVal1Lo
  /-- WR_RR_VAL1_LO (R102): write of RR_VAL1_LO, descriptor 0x1A8. -/
  | wrRrVal1Lo (d : Word)
  /-- RD_RR_VAL1_HI (R103): read of RR_VAL1_HI, descriptor 0x0AC. -/
  | rdRrVal1Hi
  /-- WR_RR_VAL1_HI (R104): write of RR_VAL1_HI, descriptor 0x1AC. -/
  | wrRrVal1Hi (d : Word)
  /-- RD_RR_OUT (R105): read of RR_OUT, descriptor 0x0B0. -/
  | rdRrOut
  /-- WR_RR_OUT (R106): write of RR_OUT, descriptor 0x1B0. -/
  | wrRrOut (d : Word)
  /-- RD_CLK_HZ (R107): read of CLK_HZ, descriptor 0x0B4. -/
  | rdClkHz
  /-- WR_CLK_HZ (R108): write of CLK_HZ, descriptor 0x1B4. -/
  | wrClkHz (d : Word)
  /-- RD_RR_TIMER (R109): read of RR_TIMER, descriptor 0x0B8. -/
  | rdRrTimer
  /-- WR_RR_TIMER (R110): write of RR_TIMER, descriptor 0x1B8. -/
  | wrRrTimer (d : Word)
  /-- RD_RESERVED_3C (R111): read of @0x3C, descriptor 0x0BC. -/
  | rdReserved3c
  /-- WR_RESERVED_3C (R112): write of @0x3C, descriptor 0x1BC. -/
  | wrReserved3c (d : Word)
  /-- BUSERR_SIZE0 (R113): access with SIZE = 0, any WE and OFF. -/
  | buserrSize0 (we : Bool) (off : BitVec 6)
  /-- BUSERR_SIZE1 (R113): access with SIZE = 1, any WE and OFF. -/
  | buserrSize1 (we : Bool) (off : BitVec 6)
  /-- BUSERR_SIZE3 (R113): access with SIZE = 3, any WE and OFF. -/
  | buserrSize3 (we : Bool) (off : BitVec 6)
  /-- BUSERR_MISALIGNED_1 (R113): word access with OFF[1:0] = 1, any WE; `word` = OFF[5:2]. -/
  | buserrMisaligned1 (we : Bool) (word : BitVec 4)
  /-- BUSERR_MISALIGNED_2 (R113): word access with OFF[1:0] = 2, any WE; `word` = OFF[5:2]. -/
  | buserrMisaligned2 (we : Bool) (word : BitVec 4)
  /-- BUSERR_MISALIGNED_3 (R113): word access with OFF[1:0] = 3, any WE; `word` = OFF[5:2]. -/
  | buserrMisaligned3 (we : Bool) (word : BitVec 4)
deriving DecidableEq, Repr

end Sys2Proof
end

