-- ==== Sys2Proof/WellFormed.lean ====
section
/-!
DEFINITION. Which instructions are well formed. Every operand has exactly the width of its field, so the one check is on ILLEGAL: it
stands for the words that match no other row (R69).
-/

namespace Sys2Proof

/-- R69 (a): the operation is one of the reserved ones, w[3:0] ∈ 7..15. -/
def reservedOp (w : Word) : Bool := 7 ≤ (w.extractLsb' 0 4).toNat

/-- R69 (b): w[7:4] ≠ 0. -/
def reservedLowBits (w : Word) : Bool := w.extractLsb' 4 4 != 0#4

/-- R69 (c): w[31:10] ≠ 0. -/
def reservedHighBits (w : Word) : Bool := w.extractLsb' 10 22 != 0#22

/-- R69 (d): w[9] = 1 and w[3:0] ≠ 4. -/
def strayLoopBit (w : Word) : Bool := w.getLsbD 9 && w.extractLsb' 0 4 != 4#4

/-- R69 (e): w[8] = 1 and w[3:0] ∈ 0, 2, 5, 6. -/
def strayOperandBit (w : Word) : Bool :=
  w.getLsbD 8 && [0#4, 2#4, 5#4, 6#4].contains (w.extractLsb' 0 4)

/-- A word written to CMD is illegal exactly when one of the clauses (a) to (e) of R69 holds. -/
def illegalWord (w : Word) : Bool :=
  reservedOp w || reservedLowBits w || reservedHighBits w || strayLoopBit w || strayOperandBit w

/-- An instruction is well formed when it is one of the table's rows with operands the row admits. -/
def wellFormed : Instr → Bool
  | .nop => true
  | .wcrSample _ => true
  | .rrIdle => true
  | .rrShow _ => true
  | .rrSeq _ _ => true
  | .rrDone => true
  | .clrStatus => true
  | .illegal w => illegalWord w
  | .rdCmd => true
  | .wrCmd _ => true
  | .rdStatus => true
  | .wrStatus _ => true
  | .rdWcrResLo => true
  | .wrWcrResLo _ => true
  | .rdWcrResHi => true
  | .wrWcrResHi _ => true
  | .rdWcrH1 => true
  | .wrWcrH1 _ => true
  | .rdWcrL1 => true
  | .wrWcrL1 _ => true
  | .rdWcrH2 => true
  | .wrWcrH2 _ => true
  | .rdWcrL2 => true
  | .wrWcrL2 _ => true
  | .rdRrVal0Lo => true
  | .wrRrVal0Lo _ => true
  | .rdRrVal0Hi => true
  | .wrRrVal0Hi _ => true
  | .rdRrVal1Lo => true
  | .wrRrVal1Lo _ => true
  | .rdRrVal1Hi => true
  | .wrRrVal1Hi _ => true
  | .rdRrOut => true
  | .wrRrOut _ => true
  | .rdClkHz => true
  | .wrClkHz _ => true
  | .rdRrTimer => true
  | .wrRrTimer _ => true
  | .rdReserved3c => true
  | .wrReserved3c _ => true
  | .buserrSize0 _ _ => true
  | .buserrSize1 _ _ => true
  | .buserrSize3 _ _ => true
  | .buserrMisaligned1 _ _ => true
  | .buserrMisaligned2 _ _ => true
  | .buserrMisaligned3 _ _ => true

end Sys2Proof
end

