-- ==== Sys2Proof/Decode.lean ====
section
/-!
DEFINITION. The two encoded forms of R63, their decoders (R71, R72), the encoder, and the table-word interface. Both decoders are
total: a command word that matches no row decodes to ILLEGAL (R69), a descriptor that is not defined decodes to one of the BUSERR
rows (R113).
-/

namespace Sys2Proof

/-- The result of the command decoder of R71: `Cmd | Illegal`. -/
inductive Cmd where
  | nop
  | wcrSample (kind : Kind)
  | rrIdle
  | rrShow (slot : BitVec 1)
  | rrSeq (cnt : BitVec 1) (loop : Bool)
  | rrDone
  | clrStatus
  | illegal (w : Word)
deriving DecidableEq, Repr

/-- The instruction (row of format CMD) of a command. -/
def instrOfCmd : Cmd → Instr
  | .nop => .nop
  | .wcrSample kind => .wcrSample kind
  | .rrIdle => .rrIdle
  | .rrShow slot => .rrShow slot
  | .rrSeq cnt loop => .rrSeq cnt loop
  | .rrDone => .rrDone
  | .clrStatus => .clrStatus
  | .illegal w => .illegal w

/-- KIND of one bit: 0 = cycle, 1 = instret (R66). -/
def kindOfBit (b : Bool) : Kind := if b then .instret else .cycle

/-- The bit of a KIND (R66). -/
def bitOfKind : Kind → Bool
  | .cycle => false
  | .instret => true

/-- The command decoder of R71, total on every 32-bit word. -/
def decodeCommand (w : Word) : Cmd :=
  let a := w.getLsbD 8
  let b := w.getLsbD 9
  if w.extractLsb' 10 22 ≠ 0#22 ∨ w.extractLsb' 4 4 ≠ 0#4 then .illegal w
  else
    match (w.extractLsb' 0 4).toNat with
    | 0 => if !a && !b then .nop else .illegal w
    | 1 => if !b then .wcrSample (kindOfBit a) else .illegal w
    | 2 => if !a && !b then .rrIdle else .illegal w
    | 3 => if !b then .rrShow (BitVec.ofBool a) else .illegal w
    | 4 => .rrSeq (BitVec.ofBool a) b
    | 5 => if !a && !b then .rrDone else .illegal w
    | 6 => if !a && !b then .clrStatus else .illegal w
    | _ => .illegal w

/-- A command word from its fields: OP in bits 3:0, A in bit 8, B in bit 9, every other bit 0 (R64). -/
def commandWord (op : BitVec 4) (a b : Bool) : Word :=
  0#22 ++ BitVec.ofBool b ++ BitVec.ofBool a ++ 0#4 ++ op

/-- The word of a command (R68). -/
def encodeCommand : Cmd → Word
  | .nop => commandWord 0#4 false false
  | .wcrSample kind => commandWord 1#4 (bitOfKind kind) false
  | .rrIdle => commandWord 2#4 false false
  | .rrShow slot => commandWord 3#4 (slot.getLsbD 0) false
  | .rrSeq cnt loop => commandWord 4#4 (cnt.getLsbD 0) loop
  | .rrDone => commandWord 5#4 false false
  | .clrStatus => commandWord 6#4 false false
  | .illegal w => w

/-- The defined read of the register at word `n` of the window, byte offset 4·n (R39, R72). -/
def readAt (n : BitVec 4) : Instr :=
  match n.toNat with
  | 0 => .rdCmd
  | 1 => .rdStatus
  | 2 => .rdWcrResLo
  | 3 => .rdWcrResHi
  | 4 => .rdWcrH1
  | 5 => .rdWcrL1
  | 6 => .rdWcrH2
  | 7 => .rdWcrL2
  | 8 => .rdRrVal0Lo
  | 9 => .rdRrVal0Hi
  | 10 => .rdRrVal1Lo
  | 11 => .rdRrVal1Hi
  | 12 => .rdRrOut
  | 13 => .rdClkHz
  | 14 => .rdRrTimer
  | _ => .rdReserved3c

/-- The defined write of `d` to the register at word `n` of the window (R39, R72). -/
def writeAt (n : BitVec 4) (d : Word) : Instr :=
  match n.toNat with
  | 0 => .wrCmd d
  | 1 => .wrStatus d
  | 2 => .wrWcrResLo d
  | 3 => .wrWcrResHi d
  | 4 => .wrWcrH1 d
  | 5 => .wrWcrL1 d
  | 6 => .wrWcrH2 d
  | 7 => .wrWcrL2 d
  | 8 => .wrRrVal0Lo d
  | 9 => .wrRrVal0Hi d
  | 10 => .wrRrVal1Lo d
  | 11 => .wrRrVal1Hi d
  | 12 => .wrRrOut d
  | 13 => .wrClkHz d
  | 14 => .wrRrTimer d
  | _ => .wrReserved3c d

/-- The descriptor decoder of R72, total on every access: WE, SIZE, OFF, with the write data beside them. The undefined accesses
fall into the six BUSERR rows of the table by SIZE first and then by OFF[1:0]. -/
def decodeBus (we : Bool) (size : BitVec 2) (off : BitVec 6) (d : Word) : Instr :=
  let word := off.extractLsb' 2 4
  match size.toNat with
  | 0 => .buserrSize0 we off
  | 1 => .buserrSize1 we off
  | 3 => .buserrSize3 we off
  | _ =>
    match (off.extractLsb' 0 2).toNat with
    | 1 => .buserrMisaligned1 we word
    | 2 => .buserrMisaligned2 we word
    | 3 => .buserrMisaligned3 we word
    | _ => if we then writeAt word d else readAt word

/-- The instruction a host access presents (R72). -/
def decodeAccess (a : Access) : Instr := decodeBus a.we a.size a.addr a.wdata

/-- The two encoded forms of R63: a command word, or a 9-bit access descriptor with the 32 bits of `bus_wdata` beside it. -/
inductive Encoded where
  | cmd (w : Word)
  | bus (descriptor : BitVec 9) (wdata : Word)
deriving DecidableEq, Repr

/-- The descriptor of R65: WE is bit 8, SIZE bits 7:6, OFF bits 5:0. -/
def descriptor (we : Bool) (size : BitVec 2) (off : BitVec 6) : BitVec 9 :=
  BitVec.ofBool we ++ size ++ off

/-- The instruction of an encoded form. -/
def decode : Encoded → Instr
  | .cmd w => instrOfCmd (decodeCommand w)
  | .bus desc d => decodeBus (desc.getLsbD 8) (desc.extractLsb' 6 2) (desc.extractLsb' 0 6) d

/-- The encoded form of a defined read of word `n` of the window: `0x080 | OFF` (40_bus.md). No data is driven. -/
def encodeRead (n : BitVec 4) : Encoded := .bus (descriptor false 2#2 (n ++ 0#2)) 0#32

/-- The encoded form of a defined write to word `n` of the window: `0x180 | OFF` (40_bus.md). -/
def encodeWrite (n : BitVec 4) (d : Word) : Encoded := .bus (descriptor true 2#2 (n ++ 0#2)) d

/-- The encoded form of an instruction (R68, R81 to R113). -/
def encode : Instr → Encoded
  | .nop => .cmd (encodeCommand .nop)
  | .wcrSample kind => .cmd (encodeCommand (.wcrSample kind))
  | .rrIdle => .cmd (encodeCommand .rrIdle)
  | .rrShow slot => .cmd (encodeCommand (.rrShow slot))
  | .rrSeq cnt loop => .cmd (encodeCommand (.rrSeq cnt loop))
  | .rrDone => .cmd (encodeCommand .rrDone)
  | .clrStatus => .cmd (encodeCommand .clrStatus)
  | .illegal w => .cmd (encodeCommand (.illegal w))
  | .rdCmd => encodeRead 0#4
  | .wrCmd d => encodeWrite 0#4 d
  | .rdStatus => encodeRead 1#4
  | .wrStatus d => encodeWrite 1#4 d
  | .rdWcrResLo => encodeRead 2#4
  | .wrWcrResLo d => encodeWrite 2#4 d
  | .rdWcrResHi => encodeRead 3#4
  | .wrWcrResHi d => encodeWrite 3#4 d
  | .rdWcrH1 => encodeRead 4#4
  | .wrWcrH1 d => encodeWrite 4#4 d
  | .rdWcrL1 => encodeRead 5#4
  | .wrWcrL1 d => encodeWrite 5#4 d
  | .rdWcrH2 => encodeRead 6#4
  | .wrWcrH2 d => encodeWrite 6#4 d
  | .rdWcrL2 => encodeRead 7#4
  | .wrWcrL2 d => encodeWrite 7#4 d
  | .rdRrVal0Lo => encodeRead 8#4
  | .wrRrVal0Lo d => encodeWrite 8#4 d
  | .rdRrVal0Hi => encodeRead 9#4
  | .wrRrVal0Hi d => encodeWrite 9#4 d
  | .rdRrVal1Lo => encodeRead 10#4
  | .wrRrVal1Lo d => encodeWrite 10#4 d
  | .rdRrVal1Hi => encodeRead 11#4
  | .wrRrVal1Hi d => encodeWrite 11#4 d
  | .rdRrOut => encodeRead 12#4
  | .wrRrOut d => encodeWrite 12#4 d
  | .rdClkHz => encodeRead 13#4
  | .wrClkHz d => encodeWrite 13#4 d
  | .rdRrTimer => encodeRead 14#4
  | .wrRrTimer d => encodeWrite 14#4 d
  | .rdReserved3c => encodeRead 15#4
  | .wrReserved3c d => encodeWrite 15#4 d
  | .buserrSize0 we off => .bus (descriptor we 0#2 off) 0#32
  | .buserrSize1 we off => .bus (descriptor we 1#2 off) 0#32
  | .buserrSize3 we off => .bus (descriptor we 3#2 off) 0#32
  | .buserrMisaligned1 we word => .bus (descriptor we 2#2 (word ++ 1#2)) 0#32
  | .buserrMisaligned2 we word => .bus (descriptor we 2#2 (word ++ 2#2)) 0#32
  | .buserrMisaligned3 we word => .bus (descriptor we 2#2 (word ++ 3#2)) 0#32

/-- The access that presents an encoded form on the bus: a command word is written to CMD (R63). -/
def accessOf : Encoded → Access
  | .cmd w => { we := true, size := 2#2, addr := 0#6, wdata := w }
  | .bus desc d =>
    { we := desc.getLsbD 8, size := desc.extractLsb' 6 2, addr := desc.extractLsb' 0 6, wdata := d }

/-- The encoded form of a table word: a row of at most 16 bits is a 9-bit descriptor with no write data, a row of 17 to 32 bits a
command word (R63). None where the bits exceed the form. -/
def encodedOfTableWord (nbits w : Nat) : Option Encoded :=
  if nbits ≤ 16 then (if w < 512 then some (.bus (BitVec.ofNat 9 w) 0#32) else none)
  else if nbits ≤ 32 then (if w < 4294967296 then some (.cmd (BitVec.ofNat 32 w)) else none)
  else none

/-- The instruction the decoder reads from a table word of `nbits` bits. -/
def decodeTableWord (nbits w : Nat) : Option Instr :=
  match encodedOfTableWord nbits w with
  | some e => some (decode e)
  | none => none

/-- A row of the opcode table in match/mask form (R68, opcode_table.json). -/
structure Row where
  /-- the row's mnemonic -/
  mnemonic : String
  /-- true for the CMD format (32-bit words), false for the BUS format (9-bit descriptors) -/
  isCommand : Bool
  /-- the bits the row fixes -/
  mask : Nat
  /-- their values -/
  value : Nat
deriving DecidableEq, Repr

/-- A word matches a row when it agrees with it on the row's mask. -/
def Row.accepts (r : Row) (w : Nat) : Bool := w &&& r.mask == r.value

/-- The seven command rows of R68, in match/mask form. -/
def commandRows : List Row :=
  [⟨"NOP", true, 0xFFFFFFFF, 0x00000000⟩,
   ⟨"WCR_SAMPLE", true, 0xFFFFFEFF, 0x00000001⟩,
   ⟨"RR_IDLE", true, 0xFFFFFFFF, 0x00000002⟩,
   ⟨"RR_SHOW", true, 0xFFFFFEFF, 0x00000003⟩,
   ⟨"RR_SEQ", true, 0xFFFFFCFF, 0x00000004⟩,
   ⟨"RR_DONE", true, 0xFFFFFFFF, 0x00000005⟩,
   ⟨"CLR_STATUS", true, 0xFFFFFFFF, 0x00000006⟩]

/-- The 38 descriptor rows of the opcode table, in match/mask form. -/
def busRows : List Row :=
  [⟨"RD_CMD", false, 0x1FF, 0x080⟩,
   ⟨"WR_CMD", false, 0x1FF, 0x180⟩,
   ⟨"RD_STATUS", false, 0x1FF, 0x084⟩,
   ⟨"WR_STATUS", false, 0x1FF, 0x184⟩,
   ⟨"RD_WCR_RES_LO", false, 0x1FF, 0x088⟩,
   ⟨"WR_WCR_RES_LO", false, 0x1FF, 0x188⟩,
   ⟨"RD_WCR_RES_HI", false, 0x1FF, 0x08C⟩,
   ⟨"WR_WCR_RES_HI", false, 0x1FF, 0x18C⟩,
   ⟨"RD_WCR_H1", false, 0x1FF, 0x090⟩,
   ⟨"WR_WCR_H1", false, 0x1FF, 0x190⟩,
   ⟨"RD_WCR_L1", false, 0x1FF, 0x094⟩,
   ⟨"WR_WCR_L1", false, 0x1FF, 0x194⟩,
   ⟨"RD_WCR_H2", false, 0x1FF, 0x098⟩,
   ⟨"WR_WCR_H2", false, 0x1FF, 0x198⟩,
   ⟨"RD_WCR_L2", false, 0x1FF, 0x09C⟩,
   ⟨"WR_WCR_L2", false, 0x1FF, 0x19C⟩,
   ⟨"RD_RR_VAL0_LO", false, 0x1FF, 0x0A0⟩,
   ⟨"WR_RR_VAL0_LO", false, 0x1FF, 0x1A0⟩,
   ⟨"RD_RR_VAL0_HI", false, 0x1FF, 0x0A4⟩,
   ⟨"WR_RR_VAL0_HI", false, 0x1FF, 0x1A4⟩,
   ⟨"RD_RR_VAL1_LO", false, 0x1FF, 0x0A8⟩,
   ⟨"WR_RR_VAL1_LO", false, 0x1FF, 0x1A8⟩,
   ⟨"RD_RR_VAL1_HI", false, 0x1FF, 0x0AC⟩,
   ⟨"WR_RR_VAL1_HI", false, 0x1FF, 0x1AC⟩,
   ⟨"RD_RR_OUT", false, 0x1FF, 0x0B0⟩,
   ⟨"WR_RR_OUT", false, 0x1FF, 0x1B0⟩,
   ⟨"RD_CLK_HZ", false, 0x1FF, 0x0B4⟩,
   ⟨"WR_CLK_HZ", false, 0x1FF, 0x1B4⟩,
   ⟨"RD_RR_TIMER", false, 0x1FF, 0x0B8⟩,
   ⟨"WR_RR_TIMER", false, 0x1FF, 0x1B8⟩,
   ⟨"RD_RESERVED_3C", false, 0x1FF, 0x0BC⟩,
   ⟨"WR_RESERVED_3C", false, 0x1FF, 0x1BC⟩,
   ⟨"BUSERR_SIZE0", false, 0x0C0, 0x000⟩,
   ⟨"BUSERR_SIZE1", false, 0x0C0, 0x040⟩,
   ⟨"BUSERR_SIZE3", false, 0x0C0, 0x0C0⟩,
   ⟨"BUSERR_MISALIGNED_1", false, 0x0C3, 0x081⟩,
   ⟨"BUSERR_MISALIGNED_2", false, 0x0C3, 0x082⟩,
   ⟨"BUSERR_MISALIGNED_3", false, 0x0C3, 0x083⟩]

/-- The mnemonic of an instruction, as spec/opcode_table.json spells it. -/
def mnemonicOf : Instr → String
  | .nop => "NOP"
  | .wcrSample _ => "WCR_SAMPLE"
  | .rrIdle => "RR_IDLE"
  | .rrShow _ => "RR_SHOW"
  | .rrSeq _ _ => "RR_SEQ"
  | .rrDone => "RR_DONE"
  | .clrStatus => "CLR_STATUS"
  | .illegal _ => "ILLEGAL"
  | .rdCmd => "RD_CMD"
  | .wrCmd _ => "WR_CMD"
  | .rdStatus => "RD_STATUS"
  | .wrStatus _ => "WR_STATUS"
  | .rdWcrResLo => "RD_WCR_RES_LO"
  | .wrWcrResLo _ => "WR_WCR_RES_LO"
  | .rdWcrResHi => "RD_WCR_RES_HI"
  | .wrWcrResHi _ => "WR_WCR_RES_HI"
  | .rdWcrH1 => "RD_WCR_H1"
  | .wrWcrH1 _ => "WR_WCR_H1"
  | .rdWcrL1 => "RD_WCR_L1"
  | .wrWcrL1 _ => "WR_WCR_L1"
  | .rdWcrH2 => "RD_WCR_H2"
  | .wrWcrH2 _ => "WR_WCR_H2"
  | .rdWcrL2 => "RD_WCR_L2"
  | .wrWcrL2 _ => "WR_WCR_L2"
  | .rdRrVal0Lo => "RD_RR_VAL0_LO"
  | .wrRrVal0Lo _ => "WR_RR_VAL0_LO"
  | .rdRrVal0Hi => "RD_RR_VAL0_HI"
  | .wrRrVal0Hi _ => "WR_RR_VAL0_HI"
  | .rdRrVal1Lo => "RD_RR_VAL1_LO"
  | .wrRrVal1Lo _ => "WR_RR_VAL1_LO"
  | .rdRrVal1Hi => "RD_RR_VAL1_HI"
  | .wrRrVal1Hi _ => "WR_RR_VAL1_HI"
  | .rdRrOut => "RD_RR_OUT"
  | .wrRrOut _ => "WR_RR_OUT"
  | .rdClkHz => "RD_CLK_HZ"
  | .wrClkHz _ => "WR_CLK_HZ"
  | .rdRrTimer => "RD_RR_TIMER"
  | .wrRrTimer _ => "WR_RR_TIMER"
  | .rdReserved3c => "RD_RESERVED_3C"
  | .wrReserved3c _ => "WR_RESERVED_3C"
  | .buserrSize0 _ _ => "BUSERR_SIZE0"
  | .buserrSize1 _ _ => "BUSERR_SIZE1"
  | .buserrSize3 _ _ => "BUSERR_SIZE3"
  | .buserrMisaligned1 _ _ => "BUSERR_MISALIGNED_1"
  | .buserrMisaligned2 _ _ => "BUSERR_MISALIGNED_2"
  | .buserrMisaligned3 _ _ => "BUSERR_MISALIGNED_3"

end Sys2Proof
end

