-- ==== Sys2Proof/Config.lean ====
section
/-!
DEFINITION. What is fixed for the hardware (R5), what a build fixes (the OPEN parameters of R5), and the free values of the environment.
An `opaque` constant here has no body: nothing can be proved of its value.
-/

namespace Sys2Proof

/-- DWELL_MS (R5, R158): the hold of one frame. -/
def Config.dwellMs : Word := 500#32

/-- PAUSE_MS (R5, R158): the hold after frame 0. -/
def Config.pauseMs : Word := 800#32

/-- GAP_MS (R5, R158): the inter-value pause. -/
def Config.gapMs : Word := 1000#32

/-- The parameters a build or platform fixes (R5). They stand in the state and no rule changes them (R44); see log 2. -/
structure Params where
  /-- ACTIVE_LOW (R44, R135) -/
  activeLow : Bool
  /-- DELAY_MODE (R137) -/
  delayMode : DelayMode
  /-- UNCAL_TICKS_PER_MS (R137), used only when uncalibrated -/
  uncalTicksPerMs : Word
  /-- DONE_DELAY_MS (R166) -/
  doneDelayMs : Word
  /-- A_MAX (R19, R129): bound on counter advance per cycle -/
  aMax : Wide
  /-- BASE_ADDR[31:6] (R45): the base is a multiple of 64 -/
  baseBlock : BitVec 26
deriving DecidableEq, Repr

/-- BASE_ADDR (R45). -/
def Params.baseAddr (p : Params) : Word := p.baseBlock ++ 0#6

/-- ACTIVE_LOW of the build, OPEN in R5. Free value (log 2). -/
opaque Config.activeLow : Bool

/-- UNCAL_TICKS_PER_MS of the build, OPEN in R5. Free value (log 2). -/
opaque Config.uncalTicksPerMs : Word

/-- DONE_DELAY_MS of the build, OPEN in R5 and R166. Free value (log 2). -/
opaque Config.doneDelayMs : Word

/-- A_MAX of the environment, OPEN in R5. Free value (log 2). -/
opaque Config.aMax : Wide

/-- BASE_ADDR[31:6] of the platform, OPEN in R5 and R45. Free value (log 2). -/
opaque Config.baseBlock : BitVec 26

/-- The build's parameters: the OPEN ones free, DELAY_MODE at its default CALIBRATED (R5). -/
def Config.buildParams : Params :=
  { activeLow := Config.activeLow
    delayMode := .calibrated
    uncalTicksPerMs := Config.uncalTicksPerMs
    doneDelayMs := Config.doneDelayMs
    aMax := Config.aMax
    baseBlock := Config.baseBlock }

/-- The value of each counter in the first cycle after reset: outside the block and not reset by it (R19, R40). Free value (log 4). -/
opaque Config.counterStart : Kind → Wide

/-- The draw δ of each counter in each cycle for which `upcoming` lists no input (R19). Free value, capped at A_MAX where it is used
(log 4). -/
opaque Config.counterDraw : Kind → Nat → Wide

/-- The input `clk_hz` in each cycle for which `upcoming` lists no input (R20, I7). Free value (log 5). -/
opaque Config.clkHzInput : Nat → Word

/-- The value of a host expression that divides this dividend by 0, which no rule states (R7, R78). Free value (log 23). -/
opaque Config.hostDivisionByZero : Nat → Wide

end Sys2Proof
end

