-- ==== Sys2Proof/Machine/Polarity.lean ====
section
/-!
DEFINITION. The display polarity (R135, R136): the one transform every byte passes through, exactly once, on its way to the device (C3).
-/

namespace Sys2Proof.Machine

/-- `phys(v)` of R135: the physical byte of a logical one, inverted when the build is active-low. -/
def phys (p : Params) (v : Byte) : Byte := if p.activeLow then ~~~v else v

/-- IDLE_PATTERN = phys(0x00): all outputs inactive (R136). -/
def idlePattern (p : Params) : Byte := phys p 0x00#8

/-- DONE_PATTERN = phys(0xFF): all outputs active (R136). -/
def donePattern (p : Params) : Byte := phys p 0xFF#8

end Sys2Proof.Machine
end

