-- ==== Sys2Proof/Machine/State.lean ====
section
/-!
DEFINITION. The state of the machine: every register of the block (10_state.md), the external counters and ports the spec gives a
value in every cycle (R18 to R20), the build's parameters (R5) and the event trace (R10). One step is one clock cycle (R9).
-/

namespace Sys2Proof.Machine

/-- The input ports in one cycle (R18): `rst`, the host access if `bus_req` = 1, `clk_hz`, and the draw by which each counter
advances at the end of the cycle (R19), capped at A_MAX where it is used. -/
structure Pins where
  /-- `rst` -/
  rst : Bool
  /-- the access when `bus_req` = 1, none when `bus_req` = 0 -/
  bus : Option Access
  /-- `clk_hz` -/
  clkHz : Word
  /-- δ of the cycle counter -/
  drawCycle : Wide
  /-- δ of the instruction-retired counter -/
  drawInstret : Wide
deriving DecidableEq, Repr

/-- The counter port in a cycle with `cnt_rd` = 1 (R18, R62). -/
structure CounterRead where
  /-- `cnt_kind` -/
  kind : Kind
  /-- `cnt_half` -/
  half : Half
  /-- `cnt_data` -/
  data : Word
deriving DecidableEq, Repr

/-- The output ports in one cycle (R18); `out[7:0]` is the register OUT. -/
structure Outputs where
  /-- `bus_rdata`; none in a cycle in which the spec gives it no value (log 9) -/
  busRdata : Option Word
  /-- `bus_err` -/
  busErr : Bool
  /-- the counter port; none when `cnt_rd` = 0 -/
  cnt : Option CounterRead
  /-- `out_we`, the pulse of a device write -/
  outWe : Bool
deriving DecidableEq, Repr

/-- The events of the observable trace (R10), each with the number of its cycle. -/
inductive Event where
  /-- a bus access with its response -/
  | busAccess (cycle : Nat) (access : Access) (rdata : Option Word) (err : Bool)
  /-- a counter-port read with the half it returned -/
  | counterRead (cycle : Nat) (kind : Kind) (half : Half) (data : Word)
  /-- a device write `DevWrite(v)` -/
  | devWrite (cycle : Nat) (v : Byte)
deriving DecidableEq, Repr

/-- The state at the start of a cycle. -/
structure State where
  /-- the build's parameters (R5), which no rule changes (R44) -/
  params : Params
  /-- WCR_STATE (R21) -/
  wcrState : WcrState
  /-- WCR_KIND (R22) -/
  wcrKind : Kind
  /-- WCR_H1 (R23), the source's `high1` -/
  wcrH1 : Word
  /-- WCR_L1 (R23), the source's `low` -/
  wcrL1 : Word
  /-- WCR_H2 (R23), the source's `high2` -/
  wcrH2 : Word
  /-- WCR_L2 (R23), the re-read `low` -/
  wcrL2 : Word
  /-- WCR_RES (R24) -/
  wcrRes : Wide
  /-- WCR_VALID (R25) -/
  wcrValid : Bool
  /-- WCR_WRAP (R26) -/
  wcrWrap : Bool
  /-- RR_STATE (R28) -/
  rrState : RrState
  /-- RR_FRAME (R29) -/
  rrFrame : BitVec 3
  /-- RR_VIDX (R30) -/
  rrVidx : BitVec 1
  /-- RR_LAST (R30) -/
  rrLast : BitVec 1
  /-- RR_LOOP (R31) -/
  rrLoop : Bool
  /-- RR_TIMER (R32) -/
  rrTimer : Wide
  /-- RR_VAL0 (R33) -/
  rrVal0 : Wide
  /-- RR_VAL1 (R33) -/
  rrVal1 : Wide
  /-- OUT (R37) -/
  out : Byte
  /-- ERR_BUSY (R35) -/
  errBusy : Bool
  /-- ERR_ILLEGAL (R36) -/
  errIllegal : Bool
  /-- C_0 in this cycle, the cycle counter (R19), outside the block -/
  cntCycle : Wide
  /-- C_1 in this cycle, the instruction-retired counter (R19), outside the block -/
  cntInstret : Wide
  /-- the input ports in this cycle (R18) -/
  pins : Pins
  /-- the input ports in the following cycles, the next first (the MODEL's own field, log 3) -/
  upcoming : List Pins
  /-- the output ports in the cycle last completed (R18) -/
  outputs : Outputs
  /-- the number of this cycle (R10; the MODEL's own field, log 12) -/
  cycle : Nat
  /-- the events so far, oldest first (R10; the MODEL's own field) -/
  trace : List Event
deriving DecidableEq, Repr

/-- No fault stops this machine: the spec uses none (93_implementation_defined.md), a BusError being a response (R181) and the error
conditions being sticky flags (R182). So this type has no constructor. -/
inductive Fault where
deriving DecidableEq, Repr

/-- Why a step gives no successor. -/
inductive Refusal where
  /-- Raised by `exec` for an instruction without a meaning; no arm of this model raises it. Safe: the model stops. -/
  | notModelled (mnemonic : String)
  /-- Raised by `step` in every cycle whose WCR_STATE is 5, 6 or 7, `rst` high or low, which R21 says a model must refuse. Safe: no such state is
  reached from reset. -/
  | wcrStateUndefined
  /-- Raised by `step` in every cycle whose RR_STATE is 6 or 7, `rst` high or low, which R28 says a model must refuse. Safe: no such state is
  reached from reset. -/
  | rrStateUndefined
deriving DecidableEq, Repr

/-- The outcome of an instruction or a step of this machine. -/
abbrev Result := Host.Outcome State Fault Refusal

/-- The output ports of a cycle in which nothing drives them. -/
def Outputs.quiet : Outputs := { busRdata := none, busErr := false, cnt := none, outWe := false }

/-- The first cycle after a reset episode (R40, R203): every register at its reset value, the parameters those of the build, the
counters and `clk_hz` free (logs 4, 5), no host access listed (log 3), and the reset's device write in the trace (R202, log 12). -/
def State.reset : State :=
  { params := Config.buildParams
    wcrState := .idle
    wcrKind := .cycle
    wcrH1 := 0#32
    wcrL1 := 0#32
    wcrH2 := 0#32
    wcrL2 := 0#32
    wcrRes := 0#64
    wcrValid := false
    wcrWrap := false
    rrState := .idle
    rrFrame := 0#3
    rrVidx := 0#1
    rrLast := 0#1
    rrLoop := false
    rrTimer := 0#64
    rrVal0 := 0#64
    rrVal1 := 0#64
    out := idlePattern Config.buildParams
    errBusy := false
    errIllegal := false
    cntCycle := Config.counterStart .cycle
    cntInstret := Config.counterStart .instret
    pins :=
      { rst := false
        bus := none
        clkHz := Config.clkHzInput 1
        drawCycle := Config.counterDraw .cycle 1
        drawInstret := Config.counterDraw .instret 1 }
    upcoming := []
    outputs := Outputs.quiet
    cycle := 1
    trace := [.devWrite 0 (idlePattern Config.buildParams)] }

end Sys2Proof.Machine
end

