-- ==== Sys2Proof/Machine/Flags.lean ====
section
/-!
DEFINITION. The flags of the block (R41): the busy tests, the sticky errors, and the STATUS word assembled from the state (R38).
-/

namespace Sys2Proof.Machine

/-- The code of WCR_STATE (R21). -/
def wcrCode : WcrState → BitVec 3
  | .idle => 0#3
  | .rdH1 => 1#3
  | .rdL => 2#3
  | .rdH2 => 3#3
  | .rdL2 => 4#3
  | .undef5 => 5#3
  | .undef6 => 6#3
  | .undef7 => 7#3

/-- The code of RR_STATE (R28). -/
def rrCode : RrState → BitVec 3
  | .idle => 0#3
  | .frame => 1#3
  | .pause => 2#3
  | .gap => 3#3
  | .doneWait => 4#3
  | .halted => 5#3
  | .undef6 => 6#3
  | .undef7 => 7#3

/-- The code of WCR_KIND (R22): 0 = cycle, 1 = instruction-retired. -/
def kindCode : Kind → BitVec 1
  | .cycle => 0#1
  | .instret => 1#1

/-- WCR_STATE is one of the encodings R21 defines. -/
def wcrStateDefined : WcrState → Bool
  | .idle | .rdH1 | .rdL | .rdH2 | .rdL2 => true
  | .undef5 | .undef6 | .undef7 => false

/-- RR_STATE is one of the encodings R28 defines. -/
def rrStateDefined : RrState → Bool
  | .idle | .frame | .pause | .gap | .doneWait | .halted => true
  | .undef6 | .undef7 => false

/-- RR_STATE ∈ R_FRAME, R_PAUSE, R_GAP, R_DONE_WAIT: the states with a hold (R34, R139). -/
def rrHolds : RrState → Bool
  | .frame | .pause | .gap | .doneWait => true
  | .idle | .halted | .undef6 | .undef7 => false

/-- WCR_BUSY, not stored: WCR_STATE ≠ W_IDLE (R27). -/
def wcrBusy (s : State) : Bool := s.wcrState != .idle

/-- RR_BUSY, not stored (R34). -/
def rrBusy (s : State) : Bool := rrHolds s.rrState

/-- STATUS, assembled in every cycle from the state (R38), bit 31 first. -/
def statusWord (s : State) : Word :=
  0#11 ++ s.rrLast ++ BitVec.ofBool s.errIllegal ++ BitVec.ofBool s.errBusy
    ++ BitVec.ofBool s.params.activeLow ++ BitVec.ofBool s.rrLoop ++ s.rrVidx ++ s.rrFrame
    ++ rrCode s.rrState ++ BitVec.ofBool (rrBusy s) ++ 0#1 ++ wcrCode s.wcrState ++ kindCode s.wcrKind
    ++ BitVec.ofBool s.wcrWrap ++ BitVec.ofBool s.wcrValid ++ BitVec.ofBool (wcrBusy s)

/-- `set ERR_BUSY` (R35). -/
def setErrBusy (s : State) : State := { s with errBusy := true }

/-- `set ERR_ILLEGAL` (R36). -/
def setErrIllegal (s : State) : State := { s with errIllegal := true }

/-- ERR_BUSY <- 0 and ERR_ILLEGAL <- 0 (R172). -/
def clearErrors (s : State) : State := { s with errBusy := false, errIllegal := false }

end Sys2Proof.Machine
end

