-- ==== Sys2Proof/Machine/Operands.lean ====
section
/-!
DEFINITION. What the rules read: counter halves (R8, R19), value slots and frame bytes (R143, R146), words of 64-bit quantities (R49),
delays (R137, R138), the wide sample of four reads (R121), and the platform's address decode (R45).
-/

namespace Sys2Proof.Machine

/-- The low word X[31:0] of a 64-bit quantity (R49). -/
def loWord (x : Wide) : Word := x.extractLsb' 0 32

/-- The high word X[63:32] of a 64-bit quantity (R49). -/
def hiWord (x : Wide) : Word := x.extractLsb' 32 32

/-- The 64-bit quantity {h, l} = (h << 32) | l of two words (R50, R67). -/
def wideOf (h l : Word) : Wide := h ++ l

/-- C_k in this cycle (R19). -/
def counterValue (s : State) : Kind → Wide
  | .cycle => s.cntCycle
  | .instret => s.cntInstret

/-- The half of a counter value that `cnt_half` selects (R19). -/
def selectHalf (c : Wide) : Half → Word
  | .low => loWord c
  | .high => hiWord c

/-- `ReadHalf(k, h)` in this cycle (R8). -/
def readHalf (s : State) (k : Kind) (h : Half) : Word := selectHalf (counterValue s k) h

/-- The value function of R121: the wide sample of the four reads of one sample. -/
def wideSample (h1 l h2 l2 : Word) : Wide := if h1 = h2 then wideOf h1 l else wideOf h2 l2

/-- `RR_VAL[s]` (R143). -/
def slotValue (s : State) (slot : BitVec 1) : Wide := if slot = 0#1 then s.rrVal0 else s.rrVal1

/-- `byte(v, n)` = v[8n+7 : 8n] (R146). -/
def frameByte (v : Wide) (n : BitVec 3) : Byte := v.extractLsb' (8 * n.toNat) 8

/-- `delay_ticks(ms)` (R137), in 64 bits with floor division, `clk_hz` being the input of this cycle. -/
def delayTicks (p : Params) (clkHz ms : Word) : Wide :=
  match p.delayMode with
  | .calibrated => (ms.setWidth 64 * clkHz.setWidth 64) / 1000#64
  | .uncalibrated => ms.setWidth 64 * p.uncalTicksPerMs.setWidth 64

/-- max(delay_ticks(ms), 1): how many cycles a state with this hold lasts (R138). -/
def holdCycles (p : Params) (clkHz ms : Word) : Wide :=
  if delayTicks p clkHz ms < 1#64 then 1#64 else delayTicks p clkHz ms

/-- `hold(ms)` = max(delay_ticks(ms), 1) - 1 (R138), evaluated with the inputs of the cycle `s`. -/
def hold (s : State) (ms : Word) : Wide := holdCycles s.params s.pins.clkHz ms - 1#64

/-- The delta of two samples, end minus start modulo 2^64 (R133): host-side arithmetic. -/
def sampleDelta (sampleStart sampleEnd : Wide) : Wide := sampleEnd - sampleStart

/-- The platform's decode of a byte address (R45): the offset within the window, or none where the address is outside the window
and so never reaches the block. -/
def windowOffset (p : Params) (addr : Word) : Option (BitVec 6) :=
  if addr.extractLsb' 6 26 = p.baseBlock then some (addr.extractLsb' 0 6) else none

end Sys2Proof.Machine
end

