-- ==== Sys2Proof/Machine/Ops.lean ====
section
/-!
DEFINITION. The named operations the meanings and the sequencer steps are made of: the responses of the bus (R47, R113), the device write
(R8), the counter read (R62), the entry of a frame (R141), the register resets (R40). An operation with two states reads `s0`, the state
at the start of the cycle, and writes onto `s`, the state being built: all writes of a cycle come from its start-of-cycle values (R9).

The block takes no trap and returns from none (R187, R188): its one exceptional response is `busError`.
-/

namespace Sys2Proof.Machine

/-- A cycle in which the bus gives no response: the outputs start quiet. -/
def quiet (s : State) : State := { s with outputs := Outputs.quiet }

/-- The response of a defined read: `bus_rdata` = d and `bus_err` = 0. A read has no side effect (R52). -/
def respondRead (d : Word) (s : State) : State :=
  { s with outputs := { Outputs.quiet with busRdata := some d } }

/-- The response of a defined write: `bus_err` = 0. The spec gives `bus_rdata` no value (log 9). -/
def respondWrite (s : State) : State := { s with outputs := Outputs.quiet }

/-- `raise BusError(off)` (R8, R113, R181): `bus_err` = 1 and `bus_rdata` = 0 in this cycle; no register changes, nothing is recorded in
the block. -/
def busError (s : State) : State :=
  { s with outputs := { Outputs.quiet with busRdata := some 0#32, busErr := true } }

/-- `DevWrite(v)` (R8, R37): OUT <- v, with a pulse on `out_we`. The pulse is the device-write event (D29), which the cycle adds to the
trace. -/
def devWrite (v : Byte) (s : State) : State :=
  { s with out := v, outputs := { s.outputs with outWe := true } }

/-- The counter port driven for a read of one half of C_WCR_KIND (R22, R62). -/
def driveCounterPort (s0 : State) (h : Half) (s : State) : State :=
  { s with outputs := { s.outputs with cnt := some ⟨s0.wcrKind, h, readHalf s0 s0.wcrKind h⟩ } }

/-- `enter_frame(slot, n)` (R141): shows frame n of the slot and starts its dwell. -/
def enterFrame (s0 : State) (slot : BitVec 1) (n : BitVec 3) (s : State) : State :=
  { devWrite (phys s0.params (frameByte (slotValue s0 slot) n)) s with
    rrFrame := n
    rrTimer := hold s0 Config.dwellMs
    rrState := .frame }

/-- Every register at its reset value (R40). The counters and the inputs are outside the block and stay. -/
def resetRegisters (s : State) : State :=
  { s with
    wcrState := .idle
    wcrKind := .cycle
    wcrH1 := 0#32
    wcrL1 := 0#32
    wcrH2 := 0#32
    wcrL2 := 0#32
    wcrRes := 0#64
    wcrValid := false
    wcrWrap := false
    rrState := .idle
    rrFrame := 0#3
    rrVidx := 0#1
    rrLast := 0#1
    rrLoop := false
    rrTimer := 0#64
    rrVal0 := 0#64
    rrVal1 := 0#64
    out := idlePattern s.params
    errBusy := false
    errIllegal := false }

/-- {X[63:32], d}: a 64-bit slot with its low word replaced (R98, R102). -/
def withLoWord (x : Wide) (d : Word) : Wide := wideOf (hiWord x) d

/-- {d, X[31:0]}: a 64-bit slot with its high word replaced (R100, R104). -/
def withHiWord (x : Wide) (d : Word) : Wide := wideOf d (loWord x)

end Sys2Proof.Machine
end

