-- ==== Sys2Proof/Machine/Rr.lean ====
section
/-!
DEFINITION. The ResultReporter (42_rr_serial.md, 43_rr_oneshot.md): its four commands, the timer step, and the exit of each state with a
hold. One interface serves the serialized and the one-shot mode (R169).
-/

namespace Sys2Proof.Machine

/-- `rr.idle` (R140). -/
def execRrIdle (s : State) : Result :=
  if s.rrState = .idle then .next (devWrite (idlePattern s.params) (respondWrite s))
  else .next (setErrBusy (respondWrite s))

/-- `rr.show slot` (R142): frame 7 is written in the accept cycle. -/
def execRrShow (slot : BitVec 1) (s : State) : Result :=
  if s.rrState = .idle then
    .next (enterFrame s slot 7#3 { respondWrite s with rrVidx := slot, rrLast := slot, rrLoop := false })
  else .next (setErrBusy (respondWrite s))

/-- `rr.seq N[, loop]` with N = CNT + 1 (R144): slots 0..CNT, once or forever. -/
def execRrSeq (cnt : BitVec 1) (loop : Bool) (s : State) : Result :=
  if s.rrState = .idle then
    .next (enterFrame s 0#1 7#3 { respondWrite s with rrVidx := 0#1, rrLast := cnt, rrLoop := loop })
  else .next (setErrBusy (respondWrite s))

/-- `rr.done` (R163). RR_VIDX, RR_LAST, RR_LOOP and RR_FRAME are not changed. -/
def execRrDone (s : State) : Result :=
  if s.rrState = .idle then
    .next { devWrite (donePattern s.params) (respondWrite s) with
      rrTimer := hold s s.params.doneDelayMs
      rrState := .doneWait }
  else .next (setErrBusy (respondWrite s))

/-- Exit of R_FRAME (R147): the next, less significant, frame, or the pause after frame 0. -/
def exitFrame (s0 s : State) : State :=
  if s0.rrFrame > 0#3 then enterFrame s0 s0.rrVidx (s0.rrFrame - 1#3) s
  else { s with rrState := .pause, rrTimer := hold s0 Config.pauseMs }

/-- `end_of_value()` (R149): done, or the inter-value gap. -/
def endOfValue (s0 s : State) : State :=
  if s0.rrVidx = s0.rrLast ∧ s0.rrLoop = false then { s with rrState := .idle }
  else { s with rrState := .gap, rrTimer := hold s0 Config.gapMs }

/-- Exit of R_PAUSE (R148): the idle write, then `end_of_value()`. -/
def exitPause (s0 s : State) : State := endOfValue s0 (devWrite (idlePattern s0.params) s)

/-- The slot shown after a gap (R150): slot 0 after the last one, the next one otherwise. -/
def nextSlot (s0 : State) : BitVec 1 := if s0.rrVidx = s0.rrLast then 0#1 else s0.rrVidx + 1#1

/-- Exit of R_GAP (R150). -/
def exitGap (s0 s : State) : State :=
  enterFrame s0 (nextSlot s0) 7#3 { s with rrVidx := nextSlot s0 }

/-- Exit of R_DONE_WAIT (R165): the permanent halt of the reporter (R167). -/
def exitDoneWait (_s0 s : State) : State := { s with rrState := .halted }

/-- The exit rule of a state with a hold whose timer has run out (R139). -/
def rrExit (s0 s : State) : State :=
  match s0.rrState with
  | .frame => exitFrame s0 s
  | .pause => exitPause s0 s
  | .gap => exitGap s0 s
  | .doneWait => exitDoneWait s0 s
  | .idle | .halted | .undef6 | .undef7 => s

/-- The timer step (R139). -/
def timerTick (s0 s : State) : State := { s with rrTimer := s0.rrTimer - 1#64 }

/-- The RR's own step of a cycle (R139, R145, R167). An undefined RR_STATE makes none: `step` refuses it. -/
def rrStep (s0 s : State) : State :=
  if rrHolds s0.rrState then
    if s0.rrTimer > 0#64 then timerTick s0 s else rrExit s0 s
  else s

end Sys2Proof.Machine
end

