-- ==== Sys2Proof/Machine/Wcr.lean ====
section
/-!
DEFINITION. The WideCounterReader (41_wcr.md): the command WCR_SAMPLE and the four sequencer steps of the single-retry correction, one
counter read a cycle. The algorithm is reproduced exactly (R14).
-/

namespace Sys2Proof.Machine

/-- `wcr.sample k` (R116): starts a sample when the WCR is idle, is dropped with ERR_BUSY otherwise (R174). WCR_RES is not changed. -/
def execWcrSample (k : Kind) (s : State) : Result :=
  if s.wcrState = .idle then
    .next { respondWrite s with
      wcrKind := k
      wcrH1 := 0#32
      wcrL1 := 0#32
      wcrH2 := 0#32
      wcrL2 := 0#32
      wcrValid := false
      wcrWrap := false
      wcrState := .rdH1 }
  else .next (setErrBusy (respondWrite s))

/-- Step W_RD_H1 (R117): the source's `high1`. -/
def stepRdH1 (s0 s : State) : State :=
  { driveCounterPort s0 .high s with wcrH1 := readHalf s0 s0.wcrKind .high, wcrState := .rdL }

/-- Step W_RD_L (R118): the source's `low`. -/
def stepRdL (s0 s : State) : State :=
  { driveCounterPort s0 .low s with wcrL1 := readHalf s0 s0.wcrKind .low, wcrState := .rdH2 }

/-- Step W_RD_H2 (R119): the source's `high2`. Equal highs complete the sample; unequal ones mean a carry, and low is re-read. -/
def stepRdH2 (s0 s : State) : State :=
  let h2 := readHalf s0 s0.wcrKind .high
  let s1 := { driveCounterPort s0 .high s with wcrH2 := h2 }
  if h2 = s0.wcrH1 then
    { s1 with wcrRes := wideOf s0.wcrH1 s0.wcrL1, wcrValid := true, wcrState := .idle }
  else { s1 with wcrWrap := true, wcrState := .rdL2 }

/-- Step W_RD_L2 (R120): the re-read low, with `high2` authoritative. The only retry. -/
def stepRdL2 (s0 s : State) : State :=
  let l2 := readHalf s0 s0.wcrKind .low
  { driveCounterPort s0 .low s with
    wcrL2 := l2
    wcrRes := wideOf s0.wcrH2 l2
    wcrValid := true
    wcrState := .idle }

/-- The WCR's own step of a cycle (R117 to R120, R122). An undefined WCR_STATE makes none: `step` refuses it. -/
def wcrStep (s0 s : State) : State :=
  match s0.wcrState with
  | .idle => s
  | .rdH1 => stepRdH1 s0 s
  | .rdL => stepRdL s0 s
  | .rdH2 => stepRdH2 s0 s
  | .rdL2 => stepRdL2 s0 s
  | .undef5 | .undef6 | .undef7 => s

end Sys2Proof.Machine
end

