-- ==== Sys2Proof/Machine/Control.lean ====
section
/-!
DEFINITION. The commands that belong to no unit and the issue of a command word (44_control.md).
-/

namespace Sys2Proof.Machine

/-- `nop` (R171): no effect. -/
def execNop (s : State) : Result := .next (respondWrite s)

/-- `clr.status` (R172): always accepted. -/
def execClrStatus (s : State) : Result := .next (clearErrors (respondWrite s))

/-- An illegal command word (R173): ERR_ILLEGAL and nothing else; the access completes with `bus_err` = 0. -/
def execIllegal (_w : Word) (s : State) : Result := .next (setErrIllegal (respondWrite s))

/-- `issue(c)` (R171). -/
def issue (c : Cmd) (s : State) : Result :=
  match c with
  | .nop => execNop s
  | .wcrSample kind => execWcrSample kind s
  | .rrIdle => execRrIdle s
  | .rrShow slot => execRrShow slot s
  | .rrSeq cnt loop => execRrSeq cnt loop s
  | .rrDone => execRrDone s
  | .clrStatus => execClrStatus s
  | .illegal w => execIllegal w s

end Sys2Proof.Machine
end

