-- ==== Sys2Proof/Machine/Cycle.lean ====
section
/-!
DEFINITION. What a clock cycle does around the host access: the sequencers' own steps from the start-of-cycle state (R9, R171), the trace
(R10), the environment's advance (R19), and the cycle with `rst` = 1 (R201, R202).
-/

namespace Sys2Proof.Machine

/-- The events of one cycle, from its access and its output ports: the bus access with its response, the counter read, the device
write (R10). Their order within a cycle is the model's (log 8). -/
def cycleEvents (n : Nat) (bus : Option Access) (o : Outputs) (out : Byte) : List Event :=
  (match bus with
    | some a => [.busAccess n a o.busRdata o.busErr]
    | none => [])
  ++ (match o.cnt with
    | some r => [.counterRead n r.kind r.half r.data]
    | none => [])
  ++ (if o.outWe then [.devWrite n out] else [])

/-- The events of the cycle `s0` added to the trace, `s` being the state the cycle has built. -/
def recordEvents (s0 s : State) : State :=
  { s with trace := s.trace ++ cycleEvents s0.cycle s0.pins.bus s.outputs s.out }

/-- δ_k of this cycle (R19): the draw, at most A_MAX. -/
def counterAdvance (s : State) : Kind → Wide
  | .cycle => if s.pins.drawCycle ≤ s.params.aMax then s.pins.drawCycle else s.params.aMax
  | .instret => if s.pins.drawInstret ≤ s.params.aMax then s.pins.drawInstret else s.params.aMax

/-- The input ports in a cycle for which no input is listed: no reset, no access, and the free values of that cycle (log 3). -/
def unlistedPins (n : Nat) : Pins :=
  { rst := false
    bus := none
    clkHz := Config.clkHzInput n
    drawCycle := Config.counterDraw .cycle n
    drawInstret := Config.counterDraw .instret n }

/-- The input ports in the cycle after `s`. -/
def nextPins (s : State) : Pins :=
  match s.upcoming with
  | p :: _ => p
  | [] => unlistedPins (s.cycle + 1)

/-- The input ports `k` cycles after `s`; `k` = 0 is the cycle `s` itself. -/
def pinsAhead (s : State) (k : Nat) : Pins :=
  match k with
  | 0 => s.pins
  | j + 1 => (s.upcoming[j]?).getD (unlistedPins (s.cycle + (j + 1)))

/-- The environment at the end of the cycle `s0`: C_k(c+1) = C_k(c) + δ_k(c) modulo 2^64 (R19), and the inputs of the next cycle. -/
def advanceEnvironment (s0 s : State) : State :=
  { s with
    cntCycle := s0.cntCycle + counterAdvance s0 .cycle
    cntInstret := s0.cntInstret + counterAdvance s0 .instret
    pins := nextPins s0
    upcoming := s0.upcoming.tail
    cycle := s0.cycle + 1 }

/-- The end of a cycle without reset: `s` is what the host access made of the start-of-cycle state `s0`, and the WCR's and the RR's own
steps of the cycle run from `s0` (R171). A command accepted in the cycle is not also stepped: its unit was idle in `s0`. -/
def finishCycle (s0 s : State) : State :=
  advanceEnvironment s0 (recordEvents s0 (rrStep s0 (wcrStep s0 s)))

/-- The bus response in a cycle with `rst` = 1 (R114): a read returns 0, and nothing is an error. -/
def resetOutputs (bus : Option Access) : Outputs :=
  match bus with
  | some a => if a.we then Outputs.quiet else { Outputs.quiet with busRdata := some 0#32 }
  | none => Outputs.quiet

/-- The event of a reset episode (R202): DevWrite(IDLE_PATTERN) at the episode's release, that is in its last cycle, without a pulse on
`out_we`. -/
def releaseEvents (s : State) : List Event :=
  if (nextPins s).rst then [] else [.devWrite s.cycle (idlePattern s.params)]

/-- A cycle with `rst` = 1 (R201): every register takes its reset value, no unit steps, no command is issued, no counter is read. -/
def resetCycle (s : State) : State :=
  let s1 := { resetRegisters s with outputs := resetOutputs s.pins.bus }
  let s2 := recordEvents s s1
  advanceEnvironment s { s2 with trace := s2.trace ++ releaseEvents s }

end Sys2Proof.Machine
end

