-- ==== Sys2Proof/Machine/BusErrors.lean ====
section
/-!
DEFINITION. The undefined accesses (R113): every one completes with the bus error response and has no other effect (R181). Read or
write, at any offset, CMD included.
-/

namespace Sys2Proof.Machine

/-- An access with SIZE = 0 (R113). -/
def execBuserrSize0 (_we : Bool) (_off : BitVec 6) (s : State) : Result := .next (busError s)

/-- An access with SIZE = 1 (R113). -/
def execBuserrSize1 (_we : Bool) (_off : BitVec 6) (s : State) : Result := .next (busError s)

/-- An access with SIZE = 3 (R113). -/
def execBuserrSize3 (_we : Bool) (_off : BitVec 6) (s : State) : Result := .next (busError s)

/-- An access with SIZE = 2 and OFF[1:0] = 1 (R113). -/
def execBuserrMisaligned1 (_we : Bool) (_word : BitVec 4) (s : State) : Result := .next (busError s)

/-- An access with SIZE = 2 and OFF[1:0] = 2 (R113). -/
def execBuserrMisaligned2 (_we : Bool) (_word : BitVec 4) (s : State) : Result := .next (busError s)

/-- An access with SIZE = 2 and OFF[1:0] = 3 (R113). -/
def execBuserrMisaligned3 (_we : Bool) (_word : BitVec 4) (s : State) : Result := .next (busError s)

end Sys2Proof.Machine
end

