-- ==== Sys2Proof/Machine/BusReads.lean ====
section
/-!
DEFINITION. The 16 defined reads (40_bus.md): each returns the register's value at the start of the cycle and changes nothing (R52, R57).
-/

namespace Sys2Proof.Machine

/-- `rd CMD` (R81): never the last command written. -/
def execRdCmd (s : State) : Result := .next (respondRead 0#32 s)

/-- `rd STATUS` (R83): the sticky flags stay. -/
def execRdStatus (s : State) : Result := .next (respondRead (statusWord s) s)

/-- `rd WCR_RES_LO` (R85). -/
def execRdWcrResLo (s : State) : Result := .next (respondRead (loWord s.wcrRes) s)

/-- `rd WCR_RES_HI` (R87). -/
def execRdWcrResHi (s : State) : Result := .next (respondRead (hiWord s.wcrRes) s)

/-- `rd WCR_H1` (R89). -/
def execRdWcrH1 (s : State) : Result := .next (respondRead s.wcrH1 s)

/-- `rd WCR_L1` (R91). -/
def execRdWcrL1 (s : State) : Result := .next (respondRead s.wcrL1 s)

/-- `rd WCR_H2` (R93). -/
def execRdWcrH2 (s : State) : Result := .next (respondRead s.wcrH2 s)

/-- `rd WCR_L2` (R95). -/
def execRdWcrL2 (s : State) : Result := .next (respondRead s.wcrL2 s)

/-- `rd RR_VAL0_LO` (R97). -/
def execRdRrVal0Lo (s : State) : Result := .next (respondRead (loWord s.rrVal0) s)

/-- `rd RR_VAL0_HI` (R99). -/
def execRdRrVal0Hi (s : State) : Result := .next (respondRead (hiWord s.rrVal0) s)

/-- `rd RR_VAL1_LO` (R101). -/
def execRdRrVal1Lo (s : State) : Result := .next (respondRead (loWord s.rrVal1) s)

/-- `rd RR_VAL1_HI` (R103). -/
def execRdRrVal1Hi (s : State) : Result := .next (respondRead (hiWord s.rrVal1) s)

/-- `rd RR_OUT` (R105): zext_32 of the physical byte. -/
def execRdRrOut (s : State) : Result := .next (respondRead (s.out.setWidth 32) s)

/-- `rd CLK_HZ` (R107): the input in this cycle. -/
def execRdClkHz (s : State) : Result := .next (respondRead s.pins.clkHz s)

/-- `rd RR_TIMER` (R109): the low 32 bits. -/
def execRdRrTimer (s : State) : Result := .next (respondRead (loWord s.rrTimer) s)

/-- `rd @0x3C` (R111). -/
def execRdReserved3c (s : State) : Result := .next (respondRead 0#32 s)

end Sys2Proof.Machine
end

