-- ==== Sys2Proof/Machine/BusWrites.lean ====
section
/-!
DEFINITION. The 16 defined writes (40_bus.md): a write of CMD issues a command, a write of a value slot is taken when the RR is idle and
dropped with ERR_BUSY otherwise (R175), a write of a read-only register or of the reserved word is ignored without an error (D14).
-/

namespace Sys2Proof.Machine

/-- A write that is ignored: it completes and changes no register (D14). -/
def ignoreWrite (s : State) : Result := .next (respondWrite s)

/-- A write of a value slot: `update` when RR_STATE = R_IDLE, dropped with ERR_BUSY otherwise (R175). -/
def writeSlot (update : State → State) (s : State) : Result :=
  if s.rrState = .idle then .next (update (respondWrite s)) else .next (setErrBusy (respondWrite s))

/-- `wr CMD, w` (R82): decodes the word and issues the command. A malformed word is not a bus error. -/
def execWrCmd (w : Word) (s : State) : Result := issue (decodeCommand w) s

/-- `wr STATUS, d` (R84): ignored. Only CLR_STATUS clears the sticky flags. -/
def execWrStatus (_d : Word) (s : State) : Result := ignoreWrite s

/-- `wr WCR_RES_LO, d` (R86): ignored. -/
def execWrWcrResLo (_d : Word) (s : State) : Result := ignoreWrite s

/-- `wr WCR_RES_HI, d` (R88): ignored. -/
def execWrWcrResHi (_d : Word) (s : State) : Result := ignoreWrite s

/-- `wr WCR_H1, d` (R90): ignored. -/
def execWrWcrH1 (_d : Word) (s : State) : Result := ignoreWrite s

/-- `wr WCR_L1, d` (R92): ignored. -/
def execWrWcrL1 (_d : Word) (s : State) : Result := ignoreWrite s

/-- `wr WCR_H2, d` (R94): ignored. -/
def execWrWcrH2 (_d : Word) (s : State) : Result := ignoreWrite s

/-- `wr WCR_L2, d` (R96): ignored. -/
def execWrWcrL2 (_d : Word) (s : State) : Result := ignoreWrite s

/-- `wr RR_VAL0_LO, d` (R98): rrVal0[31:0] <- d if the RR is idle; the other word is never touched. -/
def execWrRrVal0Lo (d : Word) (s : State) : Result :=
  writeSlot (fun t => { t with rrVal0 := withLoWord s.rrVal0 d }) s

/-- `wr RR_VAL0_HI, d` (R100): rrVal0[63:32] <- d if the RR is idle; the other word is never touched. -/
def execWrRrVal0Hi (d : Word) (s : State) : Result :=
  writeSlot (fun t => { t with rrVal0 := withHiWord s.rrVal0 d }) s

/-- `wr RR_VAL1_LO, d` (R102): rrVal1[31:0] <- d if the RR is idle; the other word is never touched. -/
def execWrRrVal1Lo (d : Word) (s : State) : Result :=
  writeSlot (fun t => { t with rrVal1 := withLoWord s.rrVal1 d }) s

/-- `wr RR_VAL1_HI, d` (R104): rrVal1[63:32] <- d if the RR is idle; the other word is never touched. -/
def execWrRrVal1Hi (d : Word) (s : State) : Result :=
  writeSlot (fun t => { t with rrVal1 := withHiWord s.rrVal1 d }) s

/-- `wr RR_OUT, d` (R106): ignored. There is no DevWrite. -/
def execWrRrOut (_d : Word) (s : State) : Result := ignoreWrite s

/-- `wr CLK_HZ, d` (R108): ignored. -/
def execWrClkHz (_d : Word) (s : State) : Result := ignoreWrite s

/-- `wr RR_TIMER, d` (R110): ignored. The host cannot shorten a dwell. -/
def execWrRrTimer (_d : Word) (s : State) : Result := ignoreWrite s

/-- `wr @0x3C, d` (R112): ignored. -/
def execWrReserved3c (_d : Word) (s : State) : Result := ignoreWrite s

end Sys2Proof.Machine
end

