-- ==== Sys2Proof/Machine/Dispatch.lean ====
section
/-! DEFINITION. The meaning of each instruction: the effect of the host access that presents it, from the state at the start of a cycle
without reset. The sequencers' own steps of the same cycle are added by `step` (R171). -/

namespace Sys2Proof.Machine

def exec (i : Instr) (s : State) : Host.Outcome State Fault Refusal :=
  match i with
  | .nop => Sys2Proof.Machine.execNop s
  | .wcrSample kind => Sys2Proof.Machine.execWcrSample kind s
  | .rrIdle => Sys2Proof.Machine.execRrIdle s
  | .rrShow slot => Sys2Proof.Machine.execRrShow slot s
  | .rrSeq cnt loop => Sys2Proof.Machine.execRrSeq cnt loop s
  | .rrDone => Sys2Proof.Machine.execRrDone s
  | .clrStatus => Sys2Proof.Machine.execClrStatus s
  | .illegal w => Sys2Proof.Machine.execIllegal w s
  | .rdCmd => Sys2Proof.Machine.execRdCmd s
  | .wrCmd w => Sys2Proof.Machine.execWrCmd w s
  | .rdStatus => Sys2Proof.Machine.execRdStatus s
  | .wrStatus d => Sys2Proof.Machine.execWrStatus d s
  | .rdWcrResLo => Sys2Proof.Machine.execRdWcrResLo s
  | .wrWcrResLo d => Sys2Proof.Machine.execWrWcrResLo d s
  | .rdWcrResHi => Sys2Proof.Machine.execRdWcrResHi s
  | .wrWcrResHi d => Sys2Proof.Machine.execWrWcrResHi d s
  | .rdWcrH1 => Sys2Proof.Machine.execRdWcrH1 s
  | .wrWcrH1 d => Sys2Proof.Machine.execWrWcrH1 d s
  | .rdWcrL1 => Sys2Proof.Machine.execRdWcrL1 s
  | .wrWcrL1 d => Sys2Proof.Machine.execWrWcrL1 d s
  | .rdWcrH2 => Sys2Proof.Machine.execRdWcrH2 s
  | .wrWcrH2 d => Sys2Proof.Machine.execWrWcrH2 d s
  | .rdWcrL2 => Sys2Proof.Machine.execRdWcrL2 s
  | .wrWcrL2 d => Sys2Proof.Machine.execWrWcrL2 d s
  | .rdRrVal0Lo => Sys2Proof.Machine.execRdRrVal0Lo s
  | .wrRrVal0Lo d => Sys2Proof.Machine.execWrRrVal0Lo d s
  | .rdRrVal0Hi => Sys2Proof.Machine.execRdRrVal0Hi s
  | .wrRrVal0Hi d => Sys2Proof.Machine.execWrRrVal0Hi d s
  | .rdRrVal1Lo => Sys2Proof.Machine.execRdRrVal1Lo s
  | .wrRrVal1Lo d => Sys2Proof.Machine.execWrRrVal1Lo d s
  | .rdRrVal1Hi => Sys2Proof.Machine.execRdRrVal1Hi s
  | .wrRrVal1Hi d => Sys2Proof.Machine.execWrRrVal1Hi d s
  | .rdRrOut => Sys2Proof.Machine.execRdRrOut s
  | .wrRrOut d => Sys2Proof.Machine.execWrRrOut d s
  | .rdClkHz => Sys2Proof.Machine.execRdClkHz s
  | .wrClkHz d => Sys2Proof.Machine.execWrClkHz d s
  | .rdRrTimer => Sys2Proof.Machine.execRdRrTimer s
  | .wrRrTimer d => Sys2Proof.Machine.execWrRrTimer d s
  | .rdReserved3c => Sys2Proof.Machine.execRdReserved3c s
  | .wrReserved3c d => Sys2Proof.Machine.execWrReserved3c d s
  | .buserrSize0 we off => Sys2Proof.Machine.execBuserrSize0 we off s
  | .buserrSize1 we off => Sys2Proof.Machine.execBuserrSize1 we off s
  | .buserrSize3 we off => Sys2Proof.Machine.execBuserrSize3 we off s
  | .buserrMisaligned1 we word => Sys2Proof.Machine.execBuserrMisaligned1 we word s
  | .buserrMisaligned2 we word => Sys2Proof.Machine.execBuserrMisaligned2 we word s
  | .buserrMisaligned3 we word => Sys2Proof.Machine.execBuserrMisaligned3 we word s

end Sys2Proof.Machine
end

