-- ==== Sys2Proof/Machine/Step.lean ====
section
/-!
DEFINITION. One step: one clock cycle (R9). A state whose FSM encodings the spec leaves undefined is refused and gets no successor, whatever
the inputs (R21, R28, I14; log 6); in a cycle with `rst` high reset outranks everything else (R185); otherwise the host access of the cycle is decoded and executed, or none is made (R114), and the cycle is finished.
-/

namespace Sys2Proof.Machine

/-- The instruction the host presents in this cycle, if any: the machine's fetch. -/
def fetch (s : State) : Option Instr := s.pins.bus.map decodeAccess

/-- One clock cycle. -/
def step (s : State) : Host.Outcome State Fault Refusal :=
  if !wcrStateDefined s.wcrState then .refused .wcrStateUndefined
  else if !rrStateDefined s.rrState then .refused .rrStateUndefined
  else if s.pins.rst then .next (resetCycle s)
  else
    match fetch s with
    | none => .next (finishCycle s (quiet s))
    | some i =>
      match exec i s with
      | .next t => .next (finishCycle s t)
      | .fault f => .fault f
      | .refused r => .refused r

/-- `s` with the instruction of a table word presented on the bus in this cycle and `rst` low, so that the next `step` runs it. A
command word is presented as the write to CMD that it is (R63); a descriptor is presented with write data 0. -/
def State.withFetchWord (s : State) (nbits w : Nat) : State :=
  { s with pins := { s.pins with rst := false, bus := (encodedOfTableWord nbits w).map accessOf } }

end Sys2Proof.Machine
end

