-- ==== Sys2Proof/Safety.lean ====
section
/-!
DEFINITION. What holds of the block in every state of a run, in the terms the statements use: the invariants of the WCR (R21 to R26, R121),
of the RR (R28 to R31, R143, R150, R167, R168) and of the trace (R10, R37, R202).
-/

namespace Sys2Proof.Machine

/-- The device writes of a trace, with their cycle numbers: the reporter's output (R10). -/
def devWrites : List Event → List (Nat × Byte)
  | [] => []
  | .devWrite n v :: es => (n, v) :: devWrites es
  | .busAccess _ _ _ _ :: es => devWrites es
  | .counterRead _ _ _ _ :: es => devWrites es

/-- The bytes of the device writes of a trace. -/
def devBytes (es : List Event) : List Byte := (devWrites es).map Prod.snd

/-- The cycle number of an event. -/
def eventCycle : Event → Nat
  | .devWrite n _ => n
  | .busAccess n _ _ _ => n
  | .counterRead n _ _ _ => n

/-- What the WCR's registers mean in every state of a run. -/
structure WcrInv (s : State) : Prop where
  /-- encodings 5 to 7 are never reached (R21) -/
  stateDefined : wcrStateDefined s.wcrState = true
  /-- WCR_VALID is 0 from acceptance to completion (R25) -/
  busyNotValid : s.wcrState ≠ .idle → s.wcrValid = false
  /-- a sample whose highs differed is in W_RD_L2 or complete (R26, R119) -/
  wrapPlace : s.wcrWrap = true → s.wcrState = .rdL2 ∨ s.wcrState = .idle
  /-- W_RD_L2 is entered only when the highs differ, with WCR_WRAP set (R119) -/
  rereadNeedsWrap : s.wcrState = .rdL2 → s.wcrWrap = true ∧ s.wcrH1 ≠ s.wcrH2
  /-- a capture is 0 until the step that writes it (R23) -/
  capturesClear :
    (s.wcrState = .rdH1 → s.wcrH1 = 0#32 ∧ s.wcrL1 = 0#32 ∧ s.wcrH2 = 0#32 ∧ s.wcrL2 = 0#32)
    ∧ (s.wcrState = .rdL → s.wcrL1 = 0#32 ∧ s.wcrH2 = 0#32 ∧ s.wcrL2 = 0#32)
    ∧ (s.wcrState = .rdH2 → s.wcrH2 = 0#32 ∧ s.wcrL2 = 0#32)
    ∧ (s.wcrState = .rdL2 → s.wcrL2 = 0#32)
  /-- a valid result is the value function of the four captures, and WCR_WRAP tells whether the correction was taken (R25, R26, R121) -/
  validResult : s.wcrValid = true →
    s.wcrRes = wideSample s.wcrH1 s.wcrL1 s.wcrH2 s.wcrL2
    ∧ (s.wcrWrap = true ↔ s.wcrH1 ≠ s.wcrH2)
    ∧ (s.wcrWrap = false → s.wcrL2 = 0#32)
  /-- an idle WCR without a valid result has taken no sample since reset (R40) -/
  idleNotValid : s.wcrState = .idle → s.wcrValid = false → s.wcrRes = 0#64 ∧ s.wcrWrap = false

/-- The byte OUT holds in each state of the RR (R141, R147 to R150, R163, R168). -/
def expectedOut (s : State) : Byte :=
  match s.rrState with
  | .frame => phys s.params (frameByte (slotValue s s.rrVidx) s.rrFrame)
  | .pause => phys s.params (frameByte (slotValue s s.rrVidx) 0#3)
  | .doneWait | .halted => donePattern s.params
  | .idle | .gap | .undef6 | .undef7 => idlePattern s.params

/-- What the RR's registers mean in every state of a run. -/
structure RrInv (s : State) : Prop where
  /-- encodings 6 and 7 are never reached (R28) -/
  stateDefined : rrStateDefined s.rrState = true
  /-- the slot on display never passes the last one (R30) -/
  slotOrder : s.rrVidx = 1#1 → s.rrLast = 1#1
  /-- RR_LOOP is 1 only while a looping display runs (R31, R154) -/
  loopPlace : s.rrLoop = true → s.rrState = .frame ∨ s.rrState = .pause ∨ s.rrState = .gap
  /-- a gap after the last slot is a loop's (R150) -/
  gapAtLast : s.rrState = .gap → s.rrVidx = s.rrLast → s.rrLoop = true
  /-- RR_FRAME is 0 outside a frame (R29) -/
  frameClear : s.rrState ≠ .frame → s.rrFrame = 0#3
  /-- the timer of a state without a hold is 0 (R145, R167) -/
  timerClear : s.rrState = .idle ∨ s.rrState = .halted → s.rrTimer = 0#64
  /-- what the display shows -/
  display : s.out = expectedOut s

/-- What the trace says in every state of a run. -/
structure TraceInv (s : State) : Prop where
  /-- the device-write trace of every run begins with IDLE_PATTERN (R202) -/
  startsIdle : (devBytes s.trace).head? = some (idlePattern s.params)
  /-- outside a reset episode, OUT holds the byte of the last device write (R37, R54) -/
  lastIsOut : s.pins.rst = false → (devBytes s.trace).getLast? = some s.out
  /-- the events are those of earlier cycles -/
  eventsPast : ∀ e ∈ s.trace, eventCycle e < s.cycle

/-- The block is in a state every run stays in. -/
structure Inv (s : State) : Prop where
  wcr : WcrInv s
  rr : RrInv s
  events : TraceInv s

/-- The counter-port reads of a trace, with their cycle numbers (R10, R124). -/
def counterReads : List Event → List (Nat × Kind × Half × Word)
  | [] => []
  | .counterRead n k h d :: es => (n, k, h, d) :: counterReads es
  | .busAccess _ _ _ _ :: es => counterReads es
  | .devWrite _ _ :: es => counterReads es

/-- The bus accesses of a trace, with their cycle numbers and responses (R10). -/
def busAccesses : List Event → List (Nat × Access × Option Word × Bool)
  | [] => []
  | .busAccess n a d e :: es => (n, a, d, e) :: busAccesses es
  | .counterRead _ _ _ _ :: es => busAccesses es
  | .devWrite _ _ :: es => busAccesses es

/-- Both FSM encodings are ones the spec defines (R21, R28). -/
def fsmDefined (s : State) : Bool := wcrStateDefined s.wcrState && rrStateDefined s.rrState

/-- `rst` is low in the cycle `s` and the `n - 1` cycles after it. -/
def noResetFor (s : State) (n : Nat) : Prop := ∀ k < n, (pinsAhead s k).rst = false

/-- `clk_hz` is `hz` in the cycle `s` and the `n - 1` cycles after it. -/
def clockFor (s : State) (hz : Word) (n : Nat) : Prop := ∀ k < n, (pinsAhead s k).clkHz = hz

/-- The command the access of this cycle issues, if it is a defined write to CMD (R82). -/
def issuedCommand (s : State) : Option Cmd :=
  match fetch s with
  | some (.wrCmd w) => some (decodeCommand w)
  | _ => none

/-- The command is one of the RR's (R161). -/
def isRrCommand : Cmd → Bool
  | .rrIdle | .rrShow _ | .rrSeq _ _ | .rrDone => true
  | .nop | .wcrSample _ | .clrStatus | .illegal _ => false

/-- The access of this cycle is a defined write to a value slot (R175). -/
def isSlotWrite : Instr → Bool
  | .wrRrVal0Lo _ | .wrRrVal0Hi _ | .wrRrVal1Lo _ | .wrRrVal1Hi _ => true
  | _ => false

/-- The access of this cycle is an RR command or a value-slot write while the RR is not idle, or a WCR_SAMPLE while the WCR is not idle: the
event BUSY_REJECT (R174, R175, R182). -/
def busyReject (s : State) : Prop :=
  (s.rrState ≠ .idle ∧ ((∃ c, issuedCommand s = some c ∧ isRrCommand c = true) ∨ ∃ i, fetch s = some i ∧ isSlotWrite i = true))
  ∨ (s.wcrState ≠ .idle ∧ ∃ k, issuedCommand s = some (.wcrSample k))

/-- Two states agree on everything the WCR's rules read or write: its registers, the counters and A_MAX, and the inputs but for
`clk_hz` (R134). -/
structure WcrAgree (s t : State) : Prop where
  wcrState : s.wcrState = t.wcrState
  wcrKind : s.wcrKind = t.wcrKind
  wcrH1 : s.wcrH1 = t.wcrH1
  wcrL1 : s.wcrL1 = t.wcrL1
  wcrH2 : s.wcrH2 = t.wcrH2
  wcrL2 : s.wcrL2 = t.wcrL2
  wcrRes : s.wcrRes = t.wcrRes
  wcrValid : s.wcrValid = t.wcrValid
  wcrWrap : s.wcrWrap = t.wcrWrap
  cntCycle : s.cntCycle = t.cntCycle
  cntInstret : s.cntInstret = t.cntInstret

/-- Two states agree on everything the RR's rules read or write: its registers, the value slots and OUT (R134). -/
structure RrAgree (s t : State) : Prop where
  rrState : s.rrState = t.rrState
  rrFrame : s.rrFrame = t.rrFrame
  rrVidx : s.rrVidx = t.rrVidx
  rrLast : s.rrLast = t.rrLast
  rrLoop : s.rrLoop = t.rrLoop
  rrTimer : s.rrTimer = t.rrTimer
  rrVal0 : s.rrVal0 = t.rrVal0
  rrVal1 : s.rrVal1 = t.rrVal1
  out : s.out = t.out

/-- Two states that differ at most in ACTIVE_LOW and in what it reaches: OUT, the outputs and the trace (R157). -/
def samePath (s t : State) : Prop :=
  t = { s with params := { s.params with activeLow := t.params.activeLow }, out := t.out, outputs := t.outputs, trace := t.trace }

/-- The state after `n` cycles without a refusal, by the host's run. -/
def reaches (s : State) (n : Nat) (t : State) : Prop := Sys2Proof.core.run n s = .next t

end Sys2Proof.Machine
end

