-- ==== Sys2Proof/Certificates/Slice0/Obligations.lean ====
section
/-!
DEFINITION. The statements for the provers. Each docstring names the rule of spec/ it formalises. `exec i s` is the effect of the host access
that presents `i` in a cycle without reset; `step` adds the sequencers' own steps and the environment (`finishCycle`).
-/

open Sys2Proof Sys2Proof.Machine

/-! ### Encoding -/

/-- R63 to R72: decoding the encoded form of a well-formed instruction gives the instruction back, for every row of the table and every
operand. -/
def Obligations.DecodeOfEncodeIsIdentity : Prop :=
  ∀ i : Instr, wellFormed i = true → decode (encode i) = i

/-- R69: a command word is illegal exactly by the clauses (a) to (e), its one effect is to set ERR_ILLEGAL, and the legal words are the
twelve of R68. -/
def Obligations.IllegalCommandWordsAreExactlyR69 : Prop :=
  ∀ w : Word,
    (decodeCommand w = .illegal w ↔
      (7 ≤ (w.extractLsb' 0 4).toNat ∨ w.extractLsb' 4 4 ≠ 0#4 ∨ w.extractLsb' 10 22 ≠ 0#22
        ∨ (w.getLsbD 9 = true ∧ w.extractLsb' 0 4 ≠ 4#4)
        ∨ (w.getLsbD 8 = true ∧ w.extractLsb' 0 4 ∈ [0#4, 2#4, 5#4, 6#4])))
    ∧ (decodeCommand w = .illegal w → ∀ s : State,
        exec (.wrCmd w) s = .next { s with errIllegal := true, outputs := Outputs.quiet })
    ∧ (decodeCommand w ≠ .illegal w ↔
        w ∈ [0x00000000#32, 0x00000001#32, 0x00000101#32, 0x00000002#32, 0x00000003#32, 0x00000103#32, 0x00000004#32,
          0x00000104#32, 0x00000204#32, 0x00000304#32, 0x00000005#32, 0x00000006#32])

/-- R68, the match/mask form: a word that agrees with a row on its mask decodes to that row's command with the row's operand bits, and a
word that agrees with no row is illegal. -/
def Obligations.CommandRowsDecodeByMatchAndMask : Prop :=
  ∀ w : Word,
    (w &&& 0xFFFFFFFF#32 = 0x00000000#32 → decodeCommand w = .nop)
    ∧ (w &&& 0xFFFFFEFF#32 = 0x00000001#32 →
        decodeCommand w = .wcrSample (if w.getLsbD 8 then .instret else .cycle))
    ∧ (w &&& 0xFFFFFFFF#32 = 0x00000002#32 → decodeCommand w = .rrIdle)
    ∧ (w &&& 0xFFFFFEFF#32 = 0x00000003#32 → decodeCommand w = .rrShow (w.extractLsb' 8 1))
    ∧ (w &&& 0xFFFFFCFF#32 = 0x00000004#32 → decodeCommand w = .rrSeq (w.extractLsb' 8 1) (w.getLsbD 9))
    ∧ (w &&& 0xFFFFFFFF#32 = 0x00000005#32 → decodeCommand w = .rrDone)
    ∧ (w &&& 0xFFFFFFFF#32 = 0x00000006#32 → decodeCommand w = .clrStatus)
    ∧ ((∀ r ∈ commandRows, r.accepts w.toNat = false) → decodeCommand w = .illegal w)

/-- The descriptor rows of the opcode table: every 9-bit descriptor is accepted by exactly one row, the row of the instruction it decodes
to. -/
def Obligations.EveryDescriptorHasOneRow : Prop :=
  ∀ (desc : BitVec 9) (d : Word), ∃ r ∈ busRows,
    r.accepts desc.toNat = true ∧ mnemonicOf (decode (.bus desc d)) = r.mnemonic
      ∧ ∀ q ∈ busRows, q.accepts desc.toNat = true → q = r

/-- Words of every family written out from R68, R81 to R113 and R64, R65 decode to the instruction they stand for. -/
def Obligations.SampleWordsDecode : Prop :=
  decode (.cmd 0x00000101#32) = .wcrSample .instret
  ∧ decode (.cmd 0x00000304#32) = .rrSeq 1#1 true
  ∧ decode (.cmd 0x00000010#32) = .illegal 0x00000010#32
  ∧ decode (.bus 0x084#9 0#32) = .rdStatus
  ∧ decode (.bus 0x1A4#9 0x01234567#32) = .wrRrVal0Hi 0x01234567#32
  ∧ decode (.bus 0x100#9 1#32) = .buserrSize0 true 0#6
  ∧ decode (.bus 0x086#9 0#32) = .buserrMisaligned2 false 1#4

/-! ### The step -/

/-- A step runs the instruction presented on the bus: with `rst` low and both FSM encodings defined, `step` is `exec` of it followed by the
end of the cycle, for an instruction presented by its encoded form (a command by the write of its word, R76) and for every access
(R72). -/
def Obligations.StepRunsThePresentedInstruction : Prop :=
  ∀ s : State, s.pins.rst = false → fsmDefined s = true →
    (∀ i, wellFormed i = true → s.pins.bus = some (accessOf (encode i)) →
      ∃ u, exec i s = .next u ∧ step s = .next (finishCycle s u))
    ∧ (∀ a, s.pins.bus = some a →
      ∃ u, exec (decodeAccess a) s = .next u ∧ step s = .next (finishCycle s u))

/-- R114, second part, with R122 and R145: a cycle without access while the WCR is idle and the RR idle or halted changes no register and
records no event; only the environment moves on. -/
def Obligations.QuietCycleChangesNoRegister : Prop :=
  ∀ s : State, s.pins.rst = false → s.pins.bus = none → s.wcrState = .idle →
    (s.rrState = .idle ∨ s.rrState = .halted) →
    step s = .next { s with
      outputs := Outputs.quiet
      cntCycle := s.cntCycle + counterAdvance s .cycle
      cntInstret := s.cntInstret + counterAdvance s .instret
      pins := nextPins s
      upcoming := s.upcoming.tail
      cycle := s.cycle + 1 }

/-- R21 and R28 with I14: a state whose FSM encoding is undefined is refused and has no successor, with `rst` low or high (log 6). -/
def Obligations.UndefinedEncodingsAreRefused : Prop :=
  ∀ s : State,
    (s.wcrState = .undef5 ∨ s.wcrState = .undef6 ∨ s.wcrState = .undef7 → step s = .refused .wcrStateUndefined)
    ∧ (wcrStateDefined s.wcrState = true → s.rrState = .undef6 ∨ s.rrState = .undef7 →
        step s = .refused .rrStateUndefined)

/-- R11: the block is never stuck. From every state with defined encodings, every number of cycles ends in such a state, whatever the
inputs. -/
def Obligations.EveryRunGoesOn : Prop :=
  ∀ (n : Nat) (s : State), fsmDefined s = true → ∃ t, reaches s n t ∧ fsmDefined t = true

/-- R19 and R44: in every cycle each counter advances, modulo 2^64, by its draw of that cycle, at most A_MAX (a draw above A_MAX counts as
A_MAX, log 4), and the build's parameters stay. -/
def Obligations.CountersAdvanceByBoundedDraws : Prop :=
  ∀ s t : State, step s = .next t →
    t.params = s.params
    ∧ (∀ k, (counterAdvance s k).toNat ≤ s.params.aMax.toNat
        ∧ (counterValue t k).toNat = ((counterValue s k).toNat + (counterAdvance s k).toNat) % 2 ^ 64)
    ∧ (counterAdvance s .cycle).toNat = min s.pins.drawCycle.toNat s.params.aMax.toNat
    ∧ (counterAdvance s .instret).toNat = min s.pins.drawInstret.toNat s.params.aMax.toNat

/-! ### Reset -/

/-- R40: a cycle with `rst` high gives every register its reset value, from every state whose FSM encodings are defined; the
counters go on. -/
def Obligations.ResetCycleGivesResetValues : Prop :=
  ∀ s : State, fsmDefined s = true → s.pins.rst = true → ∃ t, step s = .next t
    ∧ t.wcrState = .idle ∧ t.wcrKind = .cycle ∧ t.wcrH1 = 0#32 ∧ t.wcrL1 = 0#32 ∧ t.wcrH2 = 0#32 ∧ t.wcrL2 = 0#32
    ∧ t.wcrRes = 0#64 ∧ t.wcrValid = false ∧ t.wcrWrap = false
    ∧ t.rrState = .idle ∧ t.rrFrame = 0#3 ∧ t.rrVidx = 0#1 ∧ t.rrLast = 0#1 ∧ t.rrLoop = false ∧ t.rrTimer = 0#64
    ∧ t.rrVal0 = 0#64 ∧ t.rrVal1 = 0#64
    ∧ t.out = (if s.params.activeLow then 0xFF#8 else 0x00#8)
    ∧ t.errBusy = false ∧ t.errIllegal = false
    ∧ t.cntCycle = s.cntCycle + counterAdvance s .cycle ∧ t.cntInstret = s.cntInstret + counterAdvance s .instret

/-- R114, first part, and R201: in a cycle with `rst` high no counter is read, `out_we` is low, no access is an error, and a read returns
0. That an undefined access is no error there either is the model's reading (log 10). -/
def Obligations.ResetCycleAnswersReadsWithZero : Prop :=
  ∀ s t : State, fsmDefined s = true → s.pins.rst = true → step s = .next t →
    t.outputs.cnt = none ∧ t.outputs.outWe = false ∧ t.outputs.busErr = false
    ∧ (∀ a, s.pins.bus = some a → a.we = false → t.outputs.busRdata = some 0#32)

/-- R202: a reset episode of n + 1 cycles records exactly one device write, DevWrite(IDLE_PATTERN), at the end of its last cycle, without a
pulse on `out_we`, and OUT holds IDLE_PATTERN from the end of its first cycle on. -/
def Obligations.ResetEpisodeRecordsOneIdleWrite : Prop :=
  ∀ (n : Nat) (s : State), fsmDefined s = true → (∀ k ≤ n, (pinsAhead s k).rst = true) → (pinsAhead s (n + 1)).rst = false →
    (∃ t, reaches s (n + 1) t
      ∧ devWrites t.trace = devWrites s.trace ++ [(s.cycle + n, idlePattern s.params)])
    ∧ (∀ k t, 1 ≤ k → k ≤ n + 1 → reaches s k t → t.out = idlePattern s.params ∧ t.outputs.outWe = false)

/-- R203: right after reset both units are idle, every flag is 0, STATUS reads ACTIVE_LOW << 17 and nothing else, OUT is IDLE_PATTERN, and the
first access may come at once. -/
def Obligations.StateAfterReset : Prop :=
  State.reset.wcrState = .idle ∧ State.reset.rrState = .idle
  ∧ State.reset.wcrValid = false ∧ State.reset.wcrWrap = false ∧ State.reset.errBusy = false ∧ State.reset.errIllegal = false
  ∧ wcrBusy State.reset = false ∧ rrBusy State.reset = false
  ∧ statusWord State.reset = (if State.reset.params.activeLow then 0x00020000#32 else 0x00000000#32)
  ∧ State.reset.out = idlePattern State.reset.params
  ∧ (∀ a : Access, ∃ t,
      step { State.reset with pins := { State.reset.pins with bus := some a } } = .next t)

/-! ### Invariants -/

/-- The state after reset meets the invariants. The trace's part rests on the model's choice of the reset event's cycle number (log 12). -/
def Obligations.ResetStateMeetsTheInvariants : Prop := Inv State.reset

/-- R21 to R26 and R121: every step keeps what the WCR's registers mean, the result of a valid sample being the value function of its four
captures. -/
def Obligations.StepKeepsTheWcrInvariant : Prop :=
  ∀ s t : State, WcrInv s → step s = .next t → WcrInv t

/-- R28 to R31, R143, R150, R167, R168: every step keeps what the RR's registers mean, OUT showing in each state the byte the spec gives. -/
def Obligations.StepKeepsTheRrInvariant : Prop :=
  ∀ s t : State, RrInv s → step s = .next t → RrInv t

/-- R37, R54 and R202: every step keeps that the device writes begin with IDLE_PATTERN and that OUT is the last of them outside reset. -/
def Obligations.StepKeepsTheTraceInvariant : Prop :=
  ∀ s t : State, TraceInv s → step s = .next t → TraceInv t

/-! ### Commands -/

/-- R171, NOP: the word 0x00000000 completes and leaves every register unchanged. -/
def Obligations.NopLeavesEveryRegister : Prop :=
  decodeCommand 0x00000000#32 = .nop ∧ ∀ s : State, exec .nop s = .next { s with outputs := Outputs.quiet }

/-- R172: CLR_STATUS, the word 0x00000006, clears both sticky flags, in every state of both units, and changes nothing else. -/
def Obligations.ClrStatusClearsBothStickyFlags : Prop :=
  decodeCommand 0x00000006#32 = .clrStatus
  ∧ ∀ s : State, exec .clrStatus s = .next { s with errBusy := false, errIllegal := false, outputs := Outputs.quiet }

/-- R173: an illegal word sets ERR_ILLEGAL, completes normally, and changes nothing else, whether the units are busy or not. -/
def Obligations.IllegalWordSetsOnlyErrIllegal : Prop :=
  ∀ (w : Word) (s : State), illegalWord w = true →
    exec (.illegal w) s = .next { s with errIllegal := true, outputs := Outputs.quiet }
    ∧ exec (.wrCmd w) s = .next { s with errIllegal := true, outputs := Outputs.quiet }

/-- R82: a write to CMD decodes the word and issues the command, and completes. -/
def Obligations.WriteToCmdIssuesTheDecodedCommand : Prop :=
  ∀ (w : Word) (s : State),
    decode (.bus 0x180#9 w) = .wrCmd w
    ∧ exec (.wrCmd w) s = exec (instrOfCmd (decodeCommand w)) s
    ∧ ∃ t, exec (.wrCmd w) s = .next t ∧ t.outputs.busErr = false

/-- R116: WCR_SAMPLE, the words 0x00000001 and 0x00000101, accepted when the WCR is idle and dropped with ERR_BUSY otherwise; every other register is as before. -/
def Obligations.WcrSampleStartsASample : Prop :=
  decodeCommand 0x00000001#32 = .wcrSample .cycle ∧ decodeCommand 0x00000101#32 = .wcrSample .instret
  ∧ ∀ (k : Kind) (s : State),
    (s.wcrState = .idle →
      exec (.wcrSample k) s = .next { s with
        wcrKind := k
        wcrH1 := 0#32
        wcrL1 := 0#32
        wcrH2 := 0#32
        wcrL2 := 0#32
        wcrValid := false
        wcrWrap := false
        wcrState := .rdH1
        outputs := Outputs.quiet })
    ∧ (s.wcrState ≠ .idle →
      exec (.wcrSample k) s = .next { s with errBusy := true, outputs := Outputs.quiet })

/-- R140: RR_IDLE, the word 0x00000002, writes the idle pattern when the RR is idle and is dropped with ERR_BUSY otherwise. -/
def Obligations.RrIdleWritesTheIdlePattern : Prop :=
  decodeCommand 0x00000002#32 = .rrIdle
  ∧ ∀ s : State,
    (s.rrState = .idle →
      exec .rrIdle s = .next { s with
        out := if s.params.activeLow then 0xFF#8 else 0x00#8
        outputs := { Outputs.quiet with outWe := true } })
    ∧ (s.rrState ≠ .idle → exec .rrIdle s = .next { s with errBusy := true, outputs := Outputs.quiet })

/-- R142 with R141: RR_SHOW, the words 0x00000003 and 0x00000103, writes frame 7 of its slot and loads the dwell in the accept cycle, and is dropped with ERR_BUSY when the RR is
not idle. -/
def Obligations.RrShowWritesFrameSeven : Prop :=
  decodeCommand 0x00000003#32 = .rrShow 0#1 ∧ decodeCommand 0x00000103#32 = .rrShow 1#1
  ∧ ∀ (slot : BitVec 1) (s : State),
    (s.rrState = .idle →
      exec (.rrShow slot) s = .next { s with
        rrVidx := slot
        rrLast := slot
        rrLoop := false
        rrFrame := 7#3
        rrTimer := hold s 500#32
        rrState := .frame
        out := phys s.params (((if slot = 0#1 then s.rrVal0 else s.rrVal1) >>> 56).setWidth 8)
        outputs := { Outputs.quiet with outWe := true } })
    ∧ (s.rrState ≠ .idle → exec (.rrShow slot) s = .next { s with errBusy := true, outputs := Outputs.quiet })

/-- R144 with R141: RR_SEQ, the words 0x00000004, 0x00000104, 0x00000204 and 0x00000304, starts at slot 0 with frame 7, and is dropped with ERR_BUSY when the RR is not idle. -/
def Obligations.RrSeqStartsAtSlotZero : Prop :=
  decodeCommand 0x00000004#32 = .rrSeq 0#1 false ∧ decodeCommand 0x00000104#32 = .rrSeq 1#1 false
  ∧ decodeCommand 0x00000204#32 = .rrSeq 0#1 true ∧ decodeCommand 0x00000304#32 = .rrSeq 1#1 true
  ∧ ∀ (cnt : BitVec 1) (loop : Bool) (s : State),
    (s.rrState = .idle →
      exec (.rrSeq cnt loop) s = .next { s with
        rrVidx := 0#1
        rrLast := cnt
        rrLoop := loop
        rrFrame := 7#3
        rrTimer := hold s 500#32
        rrState := .frame
        out := phys s.params ((s.rrVal0 >>> 56).setWidth 8)
        outputs := { Outputs.quiet with outWe := true } })
    ∧ (s.rrState ≠ .idle → exec (.rrSeq cnt loop) s = .next { s with errBusy := true, outputs := Outputs.quiet })

/-- R163: RR_DONE, the word 0x00000005, writes the done pattern and starts the done delay, leaving RR_VIDX, RR_LAST, RR_LOOP and RR_FRAME, and is dropped with
ERR_BUSY when the RR is not idle. -/
def Obligations.RrDoneWritesTheDonePattern : Prop :=
  decodeCommand 0x00000005#32 = .rrDone
  ∧ ∀ s : State,
    (s.rrState = .idle →
      exec .rrDone s = .next { s with
        rrTimer := hold s s.params.doneDelayMs
        rrState := .doneWait
        out := if s.params.activeLow then 0x00#8 else 0xFF#8
        outputs := { Outputs.quiet with outWe := true } })
    ∧ (s.rrState ≠ .idle → exec .rrDone s = .next { s with errBusy := true, outputs := Outputs.quiet })

/-- R161 and R174 with R175: an RR command or a value write presented while the RR is not idle, or a WCR_SAMPLE presented while the WCR is
not idle, sets ERR_BUSY, and the cycle is otherwise the one without an access: only the trace additionally holds the access with its
response. -/
def Obligations.DroppedAccessOnlySetsErrBusy : Prop :=
  ∀ s t : State, s.pins.rst = false → step s = .next t → busyReject s →
    ∃ u a, step { s with pins := { s.pins with bus := none } } = .next u ∧ s.pins.bus = some a
      ∧ t = { u with errBusy := true, trace := t.trace }
      ∧ devWrites t.trace = devWrites u.trace ∧ counterReads t.trace = counterReads u.trace
      ∧ busAccesses t.trace = busAccesses u.trace ++ [(s.cycle, a, t.outputs.busRdata, t.outputs.busErr)]

/-- R35 and R36 with R180: in every step, whatever the units do, ERR_ILLEGAL is 1 exactly when an illegal word is issued or it was 1 and no
CLR_STATUS is issued; ERR_BUSY is 1 exactly when a busy command or value write is dropped or it was 1 and no CLR_STATUS is issued; and a
reset cycle clears both. -/
def Obligations.StickyFlagsAreWrittenOnlyByIssue : Prop :=
  ∀ s t : State, step s = .next t →
    (s.pins.rst = false →
      (t.errIllegal = true ↔
        (∃ w, issuedCommand s = some (.illegal w)) ∨ (s.errIllegal = true ∧ issuedCommand s ≠ some .clrStatus))
      ∧ (t.errBusy = true ↔ busyReject s ∨ (s.errBusy = true ∧ issuedCommand s ≠ some .clrStatus)))
    ∧ (s.pins.rst = true → t.errIllegal = false ∧ t.errBusy = false)

/-! ### Host accesses -/

/-- R81 and R111: reads of CMD and of the reserved word return 0 and change nothing. -/
def Obligations.ReadsOfCmdAndReservedReturnZero : Prop :=
  ∀ (s : State) (d : Word),
    decode (.bus 0x080#9 d) = .rdCmd ∧ decode (.bus 0x0BC#9 d) = .rdReserved3c
    ∧ exec .rdCmd s = .next { s with outputs := { Outputs.quiet with busRdata := some 0#32 } }
    ∧ exec .rdReserved3c s = .next { s with outputs := { Outputs.quiet with busRdata := some 0#32 } }

/-- R83 with the table of R38 and the codes of R21 and R28: a read of STATUS returns every field at its bits, the reserved bits 0, and changes nothing. -/
def Obligations.ReadOfStatusReturnsEveryField : Prop :=
  (∀ d : Word, decode (.bus 0x084#9 d) = .rdStatus)
  ∧ ∀ s : State, ∃ d : Word,
    exec .rdStatus s = .next { s with outputs := { Outputs.quiet with busRdata := some d } }
    ∧ (d.getLsbD 0 = true ↔ s.wcrState ≠ .idle)
    ∧ d.getLsbD 1 = s.wcrValid ∧ d.getLsbD 2 = s.wcrWrap ∧ (d.getLsbD 3 = true ↔ s.wcrKind = .instret)
    ∧ d.extractLsb' 4 3 = wcrCode s.wcrState ∧ d.getLsbD 7 = false
    ∧ (s.wcrState = .idle → d.extractLsb' 4 3 = 0#3) ∧ (s.wcrState = .rdH1 → d.extractLsb' 4 3 = 1#3)
    ∧ (s.wcrState = .rdL → d.extractLsb' 4 3 = 2#3) ∧ (s.wcrState = .rdH2 → d.extractLsb' 4 3 = 3#3)
    ∧ (s.wcrState = .rdL2 → d.extractLsb' 4 3 = 4#3)
    ∧ (d.getLsbD 8 = true ↔ s.rrState ∈ [.frame, .pause, .gap, .doneWait])
    ∧ (s.rrState = .idle → d.extractLsb' 9 3 = 0#3) ∧ (s.rrState = .frame → d.extractLsb' 9 3 = 1#3)
    ∧ (s.rrState = .pause → d.extractLsb' 9 3 = 2#3) ∧ (s.rrState = .gap → d.extractLsb' 9 3 = 3#3)
    ∧ (s.rrState = .doneWait → d.extractLsb' 9 3 = 4#3) ∧ (s.rrState = .halted → d.extractLsb' 9 3 = 5#3)
    ∧ d.extractLsb' 9 3 = rrCode s.rrState ∧ d.extractLsb' 12 3 = s.rrFrame ∧ d.extractLsb' 15 1 = s.rrVidx
    ∧ d.getLsbD 16 = s.rrLoop ∧ d.getLsbD 17 = s.params.activeLow ∧ d.getLsbD 18 = s.errBusy
    ∧ d.getLsbD 19 = s.errIllegal ∧ d.extractLsb' 20 1 = s.rrLast ∧ d.extractLsb' 21 11 = 0#11

/-- R85, R87, R89, R91, R93 and R95: reads of the WCR's result and captures. -/
def Obligations.ReadsOfTheWcrRegisters : Prop :=
  ∀ (s : State) (d : Word),
    [0x088#9, 0x08C#9, 0x090#9, 0x094#9, 0x098#9, 0x09C#9].map (fun x => decode (.bus x d))
      = [.rdWcrResLo, .rdWcrResHi, .rdWcrH1, .rdWcrL1, .rdWcrH2, .rdWcrL2]
    ∧ exec .rdWcrResLo s = .next { s with outputs := { Outputs.quiet with busRdata := some (s.wcrRes.setWidth 32) } }
    ∧ exec .rdWcrResHi s = .next { s with outputs := { Outputs.quiet with busRdata := some ((s.wcrRes >>> 32).setWidth 32) } }
    ∧ exec .rdWcrH1 s = .next { s with outputs := { Outputs.quiet with busRdata := some s.wcrH1 } }
    ∧ exec .rdWcrL1 s = .next { s with outputs := { Outputs.quiet with busRdata := some s.wcrL1 } }
    ∧ exec .rdWcrH2 s = .next { s with outputs := { Outputs.quiet with busRdata := some s.wcrH2 } }
    ∧ exec .rdWcrL2 s = .next { s with outputs := { Outputs.quiet with busRdata := some s.wcrL2 } }

/-- R97, R99, R101, R103, R105, R107 and R109: reads of the value slots, OUT, `clk_hz` and the timer. -/
def Obligations.ReadsOfTheRrRegisters : Prop :=
  ∀ (s : State) (d : Word),
    [0x0A0#9, 0x0A4#9, 0x0A8#9, 0x0AC#9, 0x0B0#9, 0x0B4#9, 0x0B8#9].map (fun x => decode (.bus x d))
      = [.rdRrVal0Lo, .rdRrVal0Hi, .rdRrVal1Lo, .rdRrVal1Hi, .rdRrOut, .rdClkHz, .rdRrTimer]
    ∧ exec .rdRrVal0Lo s = .next { s with outputs := { Outputs.quiet with busRdata := some (s.rrVal0.setWidth 32) } }
    ∧ exec .rdRrVal0Hi s = .next { s with outputs := { Outputs.quiet with busRdata := some ((s.rrVal0 >>> 32).setWidth 32) } }
    ∧ exec .rdRrVal1Lo s = .next { s with outputs := { Outputs.quiet with busRdata := some (s.rrVal1.setWidth 32) } }
    ∧ exec .rdRrVal1Hi s = .next { s with outputs := { Outputs.quiet with busRdata := some ((s.rrVal1 >>> 32).setWidth 32) } }
    ∧ exec .rdRrOut s = .next { s with outputs := { Outputs.quiet with busRdata := some (0#24 ++ s.out) } }
    ∧ exec .rdClkHz s = .next { s with outputs := { Outputs.quiet with busRdata := some s.pins.clkHz } }
    ∧ exec .rdRrTimer s = .next { s with outputs := { Outputs.quiet with busRdata := some (s.rrTimer.setWidth 32) } }

/-- R84, R86, R88, R90, R92, R94, R96, R106, R108, R110 and R112: writes of read-only registers and of the reserved word complete and change
nothing. -/
def Obligations.WritesOfReadOnlyRegistersAreIgnored : Prop :=
  ∀ (d : Word) (s : State),
    [0x184#9, 0x188#9, 0x18C#9, 0x190#9, 0x194#9, 0x198#9, 0x19C#9, 0x1B0#9, 0x1B4#9, 0x1B8#9, 0x1BC#9].map (fun x => decode (.bus x d))
      = [.wrStatus d, .wrWcrResLo d, .wrWcrResHi d, .wrWcrH1 d, .wrWcrL1 d, .wrWcrH2 d, .wrWcrL2 d, .wrRrOut d, .wrClkHz d,
        .wrRrTimer d, .wrReserved3c d]
    ∧ ∀ i ∈ [Instr.wrStatus d, .wrWcrResLo d, .wrWcrResHi d, .wrWcrH1 d, .wrWcrL1 d, .wrWcrH2 d, .wrWcrL2 d, .wrRrOut d, .wrClkHz d,
        .wrRrTimer d, .wrReserved3c d],
      exec i s = .next { s with outputs := Outputs.quiet }

/-- R98, R100, R102 and R104: a write of one word of a value slot is taken when the RR is idle, the slot's other word staying, and dropped
with ERR_BUSY otherwise. -/
def Obligations.ValueSlotWritesNeedAnIdleRr : Prop :=
  ∀ (d : Word) (s : State),
    [0x1A0#9, 0x1A4#9, 0x1A8#9, 0x1AC#9].map (fun x => decode (.bus x d))
      = [.wrRrVal0Lo d, .wrRrVal0Hi d, .wrRrVal1Lo d, .wrRrVal1Hi d]
    ∧ (s.rrState = .idle →
      exec (.wrRrVal0Lo d) s = .next { s with rrVal0 := s.rrVal0.extractLsb' 32 32 ++ d, outputs := Outputs.quiet }
      ∧ exec (.wrRrVal0Hi d) s = .next { s with rrVal0 := d ++ s.rrVal0.extractLsb' 0 32, outputs := Outputs.quiet }
      ∧ exec (.wrRrVal1Lo d) s = .next { s with rrVal1 := s.rrVal1.extractLsb' 32 32 ++ d, outputs := Outputs.quiet }
      ∧ exec (.wrRrVal1Hi d) s = .next { s with rrVal1 := d ++ s.rrVal1.extractLsb' 0 32, outputs := Outputs.quiet })
    ∧ (s.rrState ≠ .idle →
      ∀ i ∈ [Instr.wrRrVal0Lo d, .wrRrVal0Hi d, .wrRrVal1Lo d, .wrRrVal1Hi d],
        exec i s = .next { s with errBusy := true, outputs := Outputs.quiet })

/-- R113, the six rows of undefined accesses: each completes with `bus_err` = 1 and `bus_rdata` = 0 and changes no register. -/
def Obligations.BusErrorRowsChangeNoRegister : Prop :=
  ∀ (we : Bool) (off : BitVec 6) (word : BitVec 4) (s : State),
    ∀ i ∈ [Instr.buserrSize0 we off, .buserrSize1 we off, .buserrSize3 we off, .buserrMisaligned1 we word,
        .buserrMisaligned2 we word, .buserrMisaligned3 we word],
      exec i s = .next { s with outputs := { Outputs.quiet with busRdata := some 0#32, busErr := true } }

/-- R48 and R113: an access is answered with BusError exactly when its size is not a word or its offset is not a multiple of 4, and then
no register changes. -/
def Obligations.BusErrorExactlyForUndefinedAccesses : Prop :=
  ∀ (a : Access) (s : State),
    (¬ (a.size = 2#2 ∧ a.addr.extractLsb' 0 2 = 0#2) →
      exec (decodeAccess a) s = .next { s with outputs := { Outputs.quiet with busRdata := some 0#32, busErr := true } })
    ∧ (a.size = 2#2 ∧ a.addr.extractLsb' 0 2 = 0#2 →
      ∃ t, exec (decodeAccess a) s = .next t ∧ t.outputs.busErr = false)

/-- R52: no read has a side effect. A cycle with any read is the cycle without an access, but for the response and the trace's record of the
access with it. -/
def Obligations.ReadsHaveNoSideEffect : Prop :=
  ∀ (s t : State) (a : Access), s.pins.rst = false → s.pins.bus = some a → a.we = false → step s = .next t →
    ∃ u, step { s with pins := { s.pins with bus := none } } = .next u
      ∧ t = { u with
          trace := t.trace
          outputs := { u.outputs with busRdata := t.outputs.busRdata, busErr := t.outputs.busErr } }
      ∧ devWrites t.trace = devWrites u.trace ∧ counterReads t.trace = counterReads u.trace
      ∧ busAccesses t.trace = busAccesses u.trace ++ [(s.cycle, a, t.outputs.busRdata, t.outputs.busErr)]

/-- R10: every step, in reset or not, records exactly the cycle's bus access with its response and the counter read of its counter port; and
without reset exactly the device write of its pulse on `out_we`. -/
def Obligations.EveryCycleIsRecordedInTheTrace : Prop :=
  ∀ s t : State, step s = .next t →
    (s.pins.bus = none → busAccesses t.trace = busAccesses s.trace)
    ∧ (∀ a, s.pins.bus = some a →
        busAccesses t.trace = busAccesses s.trace ++ [(s.cycle, a, t.outputs.busRdata, t.outputs.busErr)])
    ∧ (t.outputs.cnt = none → counterReads t.trace = counterReads s.trace)
    ∧ (∀ r, t.outputs.cnt = some r → counterReads t.trace = counterReads s.trace ++ [(s.cycle, r.kind, r.half, r.data)])
    ∧ (s.pins.rst = false →
        devWrites t.trace = devWrites s.trace ++ (if t.outputs.outWe then [(s.cycle, t.out)] else []))

/-- R57 and R212: a value word written while the RR is idle is what a read in the next cycle returns. -/
def Obligations.ValueWordWrittenIsReadNextCycle : Prop :=
  ∀ (s : State) (d : Word) (n : BitVec 4), n ∈ [8#4, 9#4, 10#4, 11#4] →
    s.pins.rst = false → fsmDefined s = true → s.rrState = .idle →
    s.pins.bus = some ⟨true, 2#2, n ++ 0#2, d⟩ →
    (nextPins s).rst = false → (∃ e, (nextPins s).bus = some ⟨false, 2#2, n ++ 0#2, e⟩) →
    ∃ t, reaches s 2 t ∧ t.outputs.busRdata = some d ∧ t.outputs.busErr = false

/-! ### The WCR's steps -/

/-- R117 to R120: the four sequencer steps, in a cycle without reset and whatever access it has, with the one counter read of each. -/
def Obligations.WcrSequencerSteps : Prop :=
  ∀ s : State, s.pins.rst = false → fsmDefined s = true → ∃ t, step s = .next t
    ∧ (s.wcrState = .rdH1 →
        t.wcrH1 = (counterValue s s.wcrKind).extractLsb' 32 32 ∧ t.wcrState = .rdL
        ∧ t.outputs.cnt = some ⟨s.wcrKind, .high, t.wcrH1⟩
        ∧ t.wcrKind = s.wcrKind ∧ t.wcrL1 = s.wcrL1 ∧ t.wcrH2 = s.wcrH2 ∧ t.wcrL2 = s.wcrL2 ∧ t.wcrRes = s.wcrRes
        ∧ t.wcrValid = s.wcrValid ∧ t.wcrWrap = s.wcrWrap)
    ∧ (s.wcrState = .rdL →
        t.wcrL1 = (counterValue s s.wcrKind).extractLsb' 0 32 ∧ t.wcrState = .rdH2
        ∧ t.outputs.cnt = some ⟨s.wcrKind, .low, t.wcrL1⟩
        ∧ t.wcrKind = s.wcrKind ∧ t.wcrH1 = s.wcrH1 ∧ t.wcrH2 = s.wcrH2 ∧ t.wcrL2 = s.wcrL2 ∧ t.wcrRes = s.wcrRes
        ∧ t.wcrValid = s.wcrValid ∧ t.wcrWrap = s.wcrWrap)
    ∧ (s.wcrState = .rdH2 →
        t.wcrH2 = (counterValue s s.wcrKind).extractLsb' 32 32
        ∧ t.outputs.cnt = some ⟨s.wcrKind, .high, t.wcrH2⟩
        ∧ t.wcrKind = s.wcrKind ∧ t.wcrH1 = s.wcrH1 ∧ t.wcrL1 = s.wcrL1 ∧ t.wcrL2 = s.wcrL2
        ∧ (t.wcrH2 = s.wcrH1 →
            t.wcrRes = s.wcrH1 ++ s.wcrL1 ∧ t.wcrValid = true ∧ t.wcrState = .idle ∧ t.wcrWrap = s.wcrWrap)
        ∧ (t.wcrH2 ≠ s.wcrH1 →
            t.wcrWrap = true ∧ t.wcrState = .rdL2 ∧ t.wcrRes = s.wcrRes ∧ t.wcrValid = s.wcrValid))
    ∧ (s.wcrState = .rdL2 →
        t.wcrL2 = (counterValue s s.wcrKind).extractLsb' 0 32 ∧ t.wcrRes = s.wcrH2 ++ t.wcrL2
        ∧ t.outputs.cnt = some ⟨s.wcrKind, .low, t.wcrL2⟩
        ∧ t.wcrValid = true ∧ t.wcrState = .idle
        ∧ t.wcrKind = s.wcrKind ∧ t.wcrH1 = s.wcrH1 ∧ t.wcrL1 = s.wcrL1 ∧ t.wcrH2 = s.wcrH2 ∧ t.wcrWrap = s.wcrWrap)

/-- R122: an idle WCR reads no counter and keeps every register, unless a WCR_SAMPLE is accepted in the cycle. -/
def Obligations.IdleWcrKeepsItsRegisters : Prop :=
  ∀ s t : State, s.pins.rst = false → s.wcrState = .idle → (∀ k, issuedCommand s ≠ some (.wcrSample k)) → step s = .next t →
    t.outputs.cnt = none ∧ t.wcrState = .idle ∧ t.wcrKind = s.wcrKind ∧ t.wcrH1 = s.wcrH1 ∧ t.wcrL1 = s.wcrL1
    ∧ t.wcrH2 = s.wcrH2 ∧ t.wcrL2 = s.wcrL2 ∧ t.wcrRes = s.wcrRes ∧ t.wcrValid = s.wcrValid ∧ t.wcrWrap = s.wcrWrap

/-- R124 with R121: a sample accepted in cycle c makes three counter reads, in c+1, c+2 and c+3, and is valid from c+4 when the highs agree; it makes a
fourth in c+4 and is valid from c+5 when they differ. -/
def Obligations.SampleMakesThreeOrFourReads : Prop :=
  ∀ (s : State) (k : Kind), fsmDefined s = true → s.wcrState = .idle → noResetFor s 5 →
    issuedCommand s = some (.wcrSample k) →
    ∃ h1 l h2 t, reaches s 4 t
      ∧ ((h1 = h2 ∧ t.wcrValid = true ∧ t.wcrState = .idle ∧ t.wcrRes = h1 ++ l
          ∧ counterReads t.trace = counterReads s.trace
              ++ [(s.cycle + 1, k, .high, h1), (s.cycle + 2, k, .low, l), (s.cycle + 3, k, .high, h2)])
        ∨ (h1 ≠ h2 ∧ t.wcrValid = false ∧ ∃ l2 u, step t = .next u ∧ u.wcrValid = true ∧ u.wcrState = .idle
          ∧ u.wcrRes = h2 ++ l2
          ∧ counterReads u.trace = counterReads s.trace
              ++ [(s.cycle + 1, k, .high, h1), (s.cycle + 2, k, .low, l), (s.cycle + 3, k, .high, h2),
                  (s.cycle + 4, k, .low, l2)]))

/-- R126 to R129: with 3·A_MAX ≤ 2^32 no sample is torn. From the cycle t1 of the first high read, the sample ends either after three reads
with the value the counter had in t2, or after four, with WCR_WRAP, with the value it had in t4. -/
def Obligations.NoSampleIsTorn : Prop :=
  ∀ s : State, fsmDefined s = true → s.wcrState = .rdH1 → s.wcrWrap = false → s.wcrValid = false → noResetFor s 4 →
    3 * s.params.aMax.toNat ≤ 2 ^ 32 →
    ∃ s2 s3 s4, step s = .next s2 ∧ step s2 = .next s3 ∧ step s3 = .next s4
      ∧ ((s4.wcrValid = true ∧ s4.wcrState = .idle ∧ s4.wcrWrap = false ∧ s4.wcrRes = counterValue s2 s.wcrKind)
        ∨ (s4.wcrValid = false ∧ ∃ u, step s4 = .next u ∧ u.wcrValid = true ∧ u.wcrState = .idle ∧ u.wcrWrap = true
            ∧ u.wcrRes = counterValue s4 s.wcrKind))

/-- R134: the units are independent. Two states that agree on the WCR's registers and the counters, with the same inputs but for `clk_hz`, agree
on them after a step, whatever the RR does; and two that agree on the RR's registers and `clk_hz` agree on them after a step, whatever the
WCR does. -/
def Obligations.UnitsAreIndependent : Prop :=
  ∀ s s' t t' : State, step s = .next t → step s' = .next t' → s.pins.rst = s'.pins.rst → s.pins.bus = s'.pins.bus →
    (s.params.aMax = s'.params.aMax → s.pins.drawCycle = s'.pins.drawCycle → s.pins.drawInstret = s'.pins.drawInstret →
      WcrAgree s s' → WcrAgree t t')
    ∧ (s.params = s'.params → s.pins.clkHz = s'.pins.clkHz → RrAgree s s' → RrAgree t t')

/-! ### The RR's steps -/

/-- R137, with the load of R138: the delay in ticks is the exact product, floored when calibrated, and a hold is max(ticks, 1) - 1. -/
def Obligations.DelaysAreExact : Prop :=
  ∀ (s : State) (ms : Word),
    (s.params.delayMode = .calibrated →
      (delayTicks s.params s.pins.clkHz ms).toNat = ms.toNat * s.pins.clkHz.toNat / 1000
      ∧ (hold s ms).toNat = max (ms.toNat * s.pins.clkHz.toNat / 1000) 1 - 1)
    ∧ (s.params.delayMode = .uncalibrated →
      (delayTicks s.params s.pins.clkHz ms).toNat = ms.toNat * s.params.uncalTicksPerMs.toNat
      ∧ (hold s ms).toNat = max (ms.toNat * s.params.uncalTicksPerMs.toNat) 1 - 1)

/-- R139: in a state with a hold and a running timer, a cycle takes 1 from the timer and changes nothing else in the RR; there is no device
write. -/
def Obligations.RunningTimerOnlyCountsDown : Prop :=
  ∀ s : State, s.pins.rst = false → fsmDefined s = true → s.rrState ∈ [.frame, .pause, .gap, .doneWait] → s.rrTimer ≠ 0#64 →
    ∃ t, step s = .next t ∧ t.rrTimer.toNat = s.rrTimer.toNat - 1 ∧ t.rrState = s.rrState ∧ t.rrFrame = s.rrFrame
      ∧ t.rrVidx = s.rrVidx ∧ t.rrLast = s.rrLast ∧ t.rrLoop = s.rrLoop ∧ t.rrVal0 = s.rrVal0 ∧ t.rrVal1 = s.rrVal1
      ∧ t.out = s.out ∧ t.outputs.outWe = false ∧ devWrites t.trace = devWrites s.trace

/-- R147: when the dwell of a frame ends, the next less significant frame is shown, or after frame 0 the pause begins without a device write. -/
def Obligations.FrameExitShowsTheNextFrame : Prop :=
  ∀ s : State, s.pins.rst = false → fsmDefined s = true → s.rrState = .frame → s.rrTimer = 0#64 → ∃ t, step s = .next t
    ∧ t.rrVidx = s.rrVidx ∧ t.rrLast = s.rrLast ∧ t.rrLoop = s.rrLoop ∧ t.rrVal0 = s.rrVal0 ∧ t.rrVal1 = s.rrVal1
    ∧ (s.rrFrame ≠ 0#3 →
        t.rrState = .frame ∧ t.rrFrame.toNat = s.rrFrame.toNat - 1 ∧ t.rrTimer = hold s 500#32 ∧ t.outputs.outWe = true
        ∧ t.out = phys s.params (((if s.rrVidx = 0#1 then s.rrVal0 else s.rrVal1) >>> (8 * (s.rrFrame.toNat - 1))).setWidth 8))
    ∧ (s.rrFrame = 0#3 →
        t.rrState = .pause ∧ t.rrFrame = 0#3 ∧ t.rrTimer = hold s 800#32 ∧ t.outputs.outWe = false ∧ t.out = s.out)

/-- R148 and R149: when the pause ends, the idle pattern is written, and the RR is idle after the last value of a display that does not loop
and in the gap otherwise. -/
def Obligations.PauseExitWritesIdleAndEndsTheValue : Prop :=
  ∀ s : State, s.pins.rst = false → fsmDefined s = true → s.rrState = .pause → s.rrTimer = 0#64 → ∃ t, step s = .next t
    ∧ t.out = (if s.params.activeLow then 0xFF#8 else 0x00#8) ∧ t.outputs.outWe = true
    ∧ t.rrVidx = s.rrVidx ∧ t.rrLast = s.rrLast ∧ t.rrLoop = s.rrLoop ∧ t.rrFrame = s.rrFrame
    ∧ t.rrVal0 = s.rrVal0 ∧ t.rrVal1 = s.rrVal1
    ∧ (s.rrVidx = s.rrLast ∧ s.rrLoop = false → t.rrState = .idle ∧ t.rrTimer = 0#64)
    ∧ (¬ (s.rrVidx = s.rrLast ∧ s.rrLoop = false) → t.rrState = .gap ∧ t.rrTimer = hold s 1000#32)

/-- R150: when the gap ends, frame 7 of the next slot is shown, slot 0 after the last one. (In a state no run reaches, `RR_VIDX + 1`
wraps in one bit: log 17.) -/
def Obligations.GapExitShowsTheNextValue : Prop :=
  ∀ s : State, s.pins.rst = false → fsmDefined s = true → s.rrState = .gap → s.rrTimer = 0#64 → ∃ t, step s = .next t
    ∧ t.rrState = .frame ∧ t.rrFrame = 7#3 ∧ t.rrTimer = hold s 500#32 ∧ t.outputs.outWe = true
    ∧ t.rrLast = s.rrLast ∧ t.rrLoop = s.rrLoop ∧ t.rrVal0 = s.rrVal0 ∧ t.rrVal1 = s.rrVal1
    ∧ t.rrVidx = (if s.rrVidx = s.rrLast then 0#1 else s.rrVidx + 1#1)
    ∧ t.out = phys s.params (((if t.rrVidx = 0#1 then s.rrVal0 else s.rrVal1) >>> 56).setWidth 8)

/-- R165: when the done delay ends, the RR halts without a device write. -/
def Obligations.DoneDelayEndsInHalt : Prop :=
  ∀ s : State, s.pins.rst = false → fsmDefined s = true → s.rrState = .doneWait → s.rrTimer = 0#64 → ∃ t, step s = .next t
    ∧ t.rrState = .halted ∧ t.rrTimer = 0#64 ∧ t.out = s.out ∧ t.outputs.outWe = false
    ∧ t.rrFrame = s.rrFrame ∧ t.rrVidx = s.rrVidx ∧ t.rrLast = s.rrLast ∧ t.rrLoop = s.rrLoop
    ∧ t.rrVal0 = s.rrVal0 ∧ t.rrVal1 = s.rrVal1

/-- R138 and R224: a hold lasts. From a state with a hold and timer T, after k ≤ T cycles without reset the timer reads T - k, the RR's state and
OUT are as before, and no device write was made. -/
def Obligations.HoldLastsUntilTheTimerRunsOut : Prop :=
  ∀ (k : Nat) (s : State), fsmDefined s = true → s.rrState ∈ [.frame, .pause, .gap, .doneWait] → k ≤ s.rrTimer.toNat →
    noResetFor s k →
    ∃ t, reaches s k t ∧ t.rrTimer.toNat = s.rrTimer.toNat - k ∧ t.rrState = s.rrState ∧ t.rrFrame = s.rrFrame ∧ t.out = s.out
      ∧ devWrites t.trace = devWrites s.trace

/-- R167: R_HALTED is permanent. However many cycles without reset pass and whatever the host does, the RR stays halted, OUT and the timer stay,
the value slots stay, and no device write is made. -/
def Obligations.HaltIsPermanentUntilReset : Prop :=
  ∀ (n : Nat) (s : State), fsmDefined s = true → s.rrState = .halted → noResetFor s n →
    ∃ t, reaches s n t ∧ t.rrState = .halted ∧ t.out = s.out ∧ t.rrTimer = s.rrTimer ∧ t.rrVal0 = s.rrVal0 ∧ t.rrVal1 = s.rrVal1
      ∧ devWrites t.trace = devWrites s.trace

/-- R154: a looping display never ends. However many cycles without reset pass and whatever the host does, RR_LOOP stays 1 and the RR never
returns to R_IDLE. -/
def Obligations.LoopingDisplayNeverEnds : Prop :=
  ∀ (n : Nat) (s t : State), RrInv s → s.rrLoop = true → noResetFor s n → reaches s n t →
    t.rrLoop = true ∧ t.rrLast = s.rrLast ∧ (t.rrState = .frame ∨ t.rrState = .pause ∨ t.rrState = .gap)

/-- R143: no value slot changes in a cycle that starts with the RR not idle and without reset. -/
def Obligations.ValueSlotsAreLockedWhileNotIdle : Prop :=
  ∀ s t : State, s.pins.rst = false → s.rrState ≠ .idle → step s = .next t → t.rrVal0 = s.rrVal0 ∧ t.rrVal1 = s.rrVal1

/-- R162: every pulse on `out_we`, that is every device write outside reset, comes from an RR command accepted by an idle RR or from an exit of
R_FRAME before frame 0, of R_PAUSE or of R_GAP; without one OUT stays. -/
def Obligations.DeviceWritesComeOnlyFromTheRr : Prop :=
  ∀ s t : State, s.pins.rst = false → step s = .next t →
    (t.outputs.outWe = true →
      (s.rrState = .idle ∧ ∃ c, issuedCommand s = some c ∧ isRrCommand c = true)
      ∨ (s.rrTimer = 0#64 ∧ ((s.rrState = .frame ∧ s.rrFrame ≠ 0#3) ∨ s.rrState = .pause ∨ s.rrState = .gap)))
    ∧ (t.outputs.outWe = false → t.out = s.out ∧ devWrites t.trace = devWrites s.trace)

/-- R151 and R152: `rr.show` in cycle c, with `clk_hz` constant, makes exactly nine device writes: frame 7 - j in cycle c + j·D and the idle
pattern in cycle c + 8·D + P, after which the RR is idle. -/
def Obligations.ShowMakesNineWritesOnTime : Prop :=
  ∀ (s : State) (slot : BitVec 1) (hz : Word), fsmDefined s = true → s.rrState = .idle → issuedCommand s = some (.rrShow slot) →
    let v := if slot = 0#1 then s.rrVal0 else s.rrVal1
    let D := (holdCycles s.params hz 500#32).toNat
    let P := (holdCycles s.params hz 800#32).toNat
    noResetFor s (8 * D + P + 1) → clockFor s hz (8 * D + P + 1) →
    ∃ t, reaches s (8 * D + P + 1) t ∧ t.rrState = .idle
      ∧ devWrites t.trace = devWrites s.trace
          ++ [(s.cycle, phys s.params ((v >>> 56).setWidth 8)),
              (s.cycle + D, phys s.params ((v >>> 48).setWidth 8)),
              (s.cycle + 2 * D, phys s.params ((v >>> 40).setWidth 8)),
              (s.cycle + 3 * D, phys s.params ((v >>> 32).setWidth 8)),
              (s.cycle + 4 * D, phys s.params ((v >>> 24).setWidth 8)),
              (s.cycle + 5 * D, phys s.params ((v >>> 16).setWidth 8)),
              (s.cycle + 6 * D, phys s.params ((v >>> 8).setWidth 8)),
              (s.cycle + 7 * D, phys s.params (v.setWidth 8)),
              (s.cycle + 8 * D + P, idlePattern s.params)]

/-- R155: the eight frame bytes, with the polarity undone, rebuild the value exactly, for either polarity. -/
def Obligations.FramesRebuildTheValue : Prop :=
  ∀ (p : Params) (v : Wide),
    let f := fun n : BitVec 3 => ((phys p (phys p (frameByte v n))).setWidth 64 : Wide)
    v = (f 0#3 <<< 0) + (f 1#3 <<< 8) + (f 2#3 <<< 16) + (f 3#3 <<< 24) + (f 4#3 <<< 32) + (f 5#3 <<< 40) + (f 6#3 <<< 48)
      + (f 7#3 <<< 56)

/-- R157: polarity does not change the path. Two states that differ only in ACTIVE_LOW and what it reaches take the same step: same registers but
OUT, same device-write pulse and counter read; with opposite polarities and complementary OUT, OUT stays complementary. -/
def Obligations.PolarityDoesNotChangeThePath : Prop :=
  ∀ s s' t : State, samePath s s' → step s = .next t →
    ∃ t', step s' = .next t' ∧ samePath t t' ∧ t'.outputs.outWe = t.outputs.outWe ∧ t'.outputs.cnt = t.outputs.cnt
      ∧ (s'.params.activeLow = !s.params.activeLow → s'.out = ~~~s.out → t'.out = ~~~t.out)
end

