-- ==== Sys2Proof/Laws/State.lean ====
section
/-!
SUPPORT. One lemma per field of State for each named update: what the update leaves in that field. All hold by rfl; they keep later proofs
from unfolding a record update.
-/

namespace Sys2Proof.Machine

@[simp] theorem quiet_params (s : State) : (quiet s).params = s.params := rfl
@[simp] theorem quiet_wcrState (s : State) : (quiet s).wcrState = s.wcrState := rfl
@[simp] theorem quiet_wcrKind (s : State) : (quiet s).wcrKind = s.wcrKind := rfl
@[simp] theorem quiet_wcrH1 (s : State) : (quiet s).wcrH1 = s.wcrH1 := rfl
@[simp] theorem quiet_wcrL1 (s : State) : (quiet s).wcrL1 = s.wcrL1 := rfl
@[simp] theorem quiet_wcrH2 (s : State) : (quiet s).wcrH2 = s.wcrH2 := rfl
@[simp] theorem quiet_wcrL2 (s : State) : (quiet s).wcrL2 = s.wcrL2 := rfl
@[simp] theorem quiet_wcrRes (s : State) : (quiet s).wcrRes = s.wcrRes := rfl
@[simp] theorem quiet_wcrValid (s : State) : (quiet s).wcrValid = s.wcrValid := rfl
@[simp] theorem quiet_wcrWrap (s : State) : (quiet s).wcrWrap = s.wcrWrap := rfl
@[simp] theorem quiet_rrState (s : State) : (quiet s).rrState = s.rrState := rfl
@[simp] theorem quiet_rrFrame (s : State) : (quiet s).rrFrame = s.rrFrame := rfl
@[simp] theorem quiet_rrVidx (s : State) : (quiet s).rrVidx = s.rrVidx := rfl
@[simp] theorem quiet_rrLast (s : State) : (quiet s).rrLast = s.rrLast := rfl
@[simp] theorem quiet_rrLoop (s : State) : (quiet s).rrLoop = s.rrLoop := rfl
@[simp] theorem quiet_rrTimer (s : State) : (quiet s).rrTimer = s.rrTimer := rfl
@[simp] theorem quiet_rrVal0 (s : State) : (quiet s).rrVal0 = s.rrVal0 := rfl
@[simp] theorem quiet_rrVal1 (s : State) : (quiet s).rrVal1 = s.rrVal1 := rfl
@[simp] theorem quiet_out (s : State) : (quiet s).out = s.out := rfl
@[simp] theorem quiet_errBusy (s : State) : (quiet s).errBusy = s.errBusy := rfl
@[simp] theorem quiet_errIllegal (s : State) : (quiet s).errIllegal = s.errIllegal := rfl
@[simp] theorem quiet_cntCycle (s : State) : (quiet s).cntCycle = s.cntCycle := rfl
@[simp] theorem quiet_cntInstret (s : State) : (quiet s).cntInstret = s.cntInstret := rfl
@[simp] theorem quiet_pins (s : State) : (quiet s).pins = s.pins := rfl
@[simp] theorem quiet_upcoming (s : State) : (quiet s).upcoming = s.upcoming := rfl
@[simp] theorem quiet_outputs (s : State) : (quiet s).outputs = Outputs.quiet := rfl
@[simp] theorem quiet_cycle (s : State) : (quiet s).cycle = s.cycle := rfl
@[simp] theorem quiet_trace (s : State) : (quiet s).trace = s.trace := rfl

@[simp] theorem respondRead_params (d : Word) (s : State) : (respondRead d s).params = s.params := rfl
@[simp] theorem respondRead_wcrState (d : Word) (s : State) : (respondRead d s).wcrState = s.wcrState := rfl
@[simp] theorem respondRead_wcrKind (d : Word) (s : State) : (respondRead d s).wcrKind = s.wcrKind := rfl
@[simp] theorem respondRead_wcrH1 (d : Word) (s : State) : (respondRead d s).wcrH1 = s.wcrH1 := rfl
@[simp] theorem respondRead_wcrL1 (d : Word) (s : State) : (respondRead d s).wcrL1 = s.wcrL1 := rfl
@[simp] theorem respondRead_wcrH2 (d : Word) (s : State) : (respondRead d s).wcrH2 = s.wcrH2 := rfl
@[simp] theorem respondRead_wcrL2 (d : Word) (s : State) : (respondRead d s).wcrL2 = s.wcrL2 := rfl
@[simp] theorem respondRead_wcrRes (d : Word) (s : State) : (respondRead d s).wcrRes = s.wcrRes := rfl
@[simp] theorem respondRead_wcrValid (d : Word) (s : State) : (respondRead d s).wcrValid = s.wcrValid := rfl
@[simp] theorem respondRead_wcrWrap (d : Word) (s : State) : (respondRead d s).wcrWrap = s.wcrWrap := rfl
@[simp] theorem respondRead_rrState (d : Word) (s : State) : (respondRead d s).rrState = s.rrState := rfl
@[simp] theorem respondRead_rrFrame (d : Word) (s : State) : (respondRead d s).rrFrame = s.rrFrame := rfl
@[simp] theorem respondRead_rrVidx (d : Word) (s : State) : (respondRead d s).rrVidx = s.rrVidx := rfl
@[simp] theorem respondRead_rrLast (d : Word) (s : State) : (respondRead d s).rrLast = s.rrLast := rfl
@[simp] theorem respondRead_rrLoop (d : Word) (s : State) : (respondRead d s).rrLoop = s.rrLoop := rfl
@[simp] theorem respondRead_rrTimer (d : Word) (s : State) : (respondRead d s).rrTimer = s.rrTimer := rfl
@[simp] theorem respondRead_rrVal0 (d : Word) (s : State) : (respondRead d s).rrVal0 = s.rrVal0 := rfl
@[simp] theorem respondRead_rrVal1 (d : Word) (s : State) : (respondRead d s).rrVal1 = s.rrVal1 := rfl
@[simp] theorem respondRead_out (d : Word) (s : State) : (respondRead d s).out = s.out := rfl
@[simp] theorem respondRead_errBusy (d : Word) (s : State) : (respondRead d s).errBusy = s.errBusy := rfl
@[simp] theorem respondRead_errIllegal (d : Word) (s : State) : (respondRead d s).errIllegal = s.errIllegal := rfl
@[simp] theorem respondRead_cntCycle (d : Word) (s : State) : (respondRead d s).cntCycle = s.cntCycle := rfl
@[simp] theorem respondRead_cntInstret (d : Word) (s : State) : (respondRead d s).cntInstret = s.cntInstret := rfl
@[simp] theorem respondRead_pins (d : Word) (s : State) : (respondRead d s).pins = s.pins := rfl
@[simp] theorem respondRead_upcoming (d : Word) (s : State) : (respondRead d s).upcoming = s.upcoming := rfl
@[simp] theorem respondRead_outputs (d : Word) (s : State) : (respondRead d s).outputs = ⟨some d, false, none, false⟩ := rfl
@[simp] theorem respondRead_cycle (d : Word) (s : State) : (respondRead d s).cycle = s.cycle := rfl
@[simp] theorem respondRead_trace (d : Word) (s : State) : (respondRead d s).trace = s.trace := rfl

@[simp] theorem respondWrite_params (s : State) : (respondWrite s).params = s.params := rfl
@[simp] theorem respondWrite_wcrState (s : State) : (respondWrite s).wcrState = s.wcrState := rfl
@[simp] theorem respondWrite_wcrKind (s : State) : (respondWrite s).wcrKind = s.wcrKind := rfl
@[simp] theorem respondWrite_wcrH1 (s : State) : (respondWrite s).wcrH1 = s.wcrH1 := rfl
@[simp] theorem respondWrite_wcrL1 (s : State) : (respondWrite s).wcrL1 = s.wcrL1 := rfl
@[simp] theorem respondWrite_wcrH2 (s : State) : (respondWrite s).wcrH2 = s.wcrH2 := rfl
@[simp] theorem respondWrite_wcrL2 (s : State) : (respondWrite s).wcrL2 = s.wcrL2 := rfl
@[simp] theorem respondWrite_wcrRes (s : State) : (respondWrite s).wcrRes = s.wcrRes := rfl
@[simp] theorem respondWrite_wcrValid (s : State) : (respondWrite s).wcrValid = s.wcrValid := rfl
@[simp] theorem respondWrite_wcrWrap (s : State) : (respondWrite s).wcrWrap = s.wcrWrap := rfl
@[simp] theorem respondWrite_rrState (s : State) : (respondWrite s).rrState = s.rrState := rfl
@[simp] theorem respondWrite_rrFrame (s : State) : (respondWrite s).rrFrame = s.rrFrame := rfl
@[simp] theorem respondWrite_rrVidx (s : State) : (respondWrite s).rrVidx = s.rrVidx := rfl
@[simp] theorem respondWrite_rrLast (s : State) : (respondWrite s).rrLast = s.rrLast := rfl
@[simp] theorem respondWrite_rrLoop (s : State) : (respondWrite s).rrLoop = s.rrLoop := rfl
@[simp] theorem respondWrite_rrTimer (s : State) : (respondWrite s).rrTimer = s.rrTimer := rfl
@[simp] theorem respondWrite_rrVal0 (s : State) : (respondWrite s).rrVal0 = s.rrVal0 := rfl
@[simp] theorem respondWrite_rrVal1 (s : State) : (respondWrite s).rrVal1 = s.rrVal1 := rfl
@[simp] theorem respondWrite_out (s : State) : (respondWrite s).out = s.out := rfl
@[simp] theorem respondWrite_errBusy (s : State) : (respondWrite s).errBusy = s.errBusy := rfl
@[simp] theorem respondWrite_errIllegal (s : State) : (respondWrite s).errIllegal = s.errIllegal := rfl
@[simp] theorem respondWrite_cntCycle (s : State) : (respondWrite s).cntCycle = s.cntCycle := rfl
@[simp] theorem respondWrite_cntInstret (s : State) : (respondWrite s).cntInstret = s.cntInstret := rfl
@[simp] theorem respondWrite_pins (s : State) : (respondWrite s).pins = s.pins := rfl
@[simp] theorem respondWrite_upcoming (s : State) : (respondWrite s).upcoming = s.upcoming := rfl
@[simp] theorem respondWrite_outputs (s : State) : (respondWrite s).outputs = Outputs.quiet := rfl
@[simp] theorem respondWrite_cycle (s : State) : (respondWrite s).cycle = s.cycle := rfl
@[simp] theorem respondWrite_trace (s : State) : (respondWrite s).trace = s.trace := rfl

@[simp] theorem busError_params (s : State) : (busError s).params = s.params := rfl
@[simp] theorem busError_wcrState (s : State) : (busError s).wcrState = s.wcrState := rfl
@[simp] theorem busError_wcrKind (s : State) : (busError s).wcrKind = s.wcrKind := rfl
@[simp] theorem busError_wcrH1 (s : State) : (busError s).wcrH1 = s.wcrH1 := rfl
@[simp] theorem busError_wcrL1 (s : State) : (busError s).wcrL1 = s.wcrL1 := rfl
@[simp] theorem busError_wcrH2 (s : State) : (busError s).wcrH2 = s.wcrH2 := rfl
@[simp] theorem busError_wcrL2 (s : State) : (busError s).wcrL2 = s.wcrL2 := rfl
@[simp] theorem busError_wcrRes (s : State) : (busError s).wcrRes = s.wcrRes := rfl
@[simp] theorem busError_wcrValid (s : State) : (busError s).wcrValid = s.wcrValid := rfl
@[simp] theorem busError_wcrWrap (s : State) : (busError s).wcrWrap = s.wcrWrap := rfl
@[simp] theorem busError_rrState (s : State) : (busError s).rrState = s.rrState := rfl
@[simp] theorem busError_rrFrame (s : State) : (busError s).rrFrame = s.rrFrame := rfl
@[simp] theorem busError_rrVidx (s : State) : (busError s).rrVidx = s.rrVidx := rfl
@[simp] theorem busError_rrLast (s : State) : (busError s).rrLast = s.rrLast := rfl
@[simp] theorem busError_rrLoop (s : State) : (busError s).rrLoop = s.rrLoop := rfl
@[simp] theorem busError_rrTimer (s : State) : (busError s).rrTimer = s.rrTimer := rfl
@[simp] theorem busError_rrVal0 (s : State) : (busError s).rrVal0 = s.rrVal0 := rfl
@[simp] theorem busError_rrVal1 (s : State) : (busError s).rrVal1 = s.rrVal1 := rfl
@[simp] theorem busError_out (s : State) : (busError s).out = s.out := rfl
@[simp] theorem busError_errBusy (s : State) : (busError s).errBusy = s.errBusy := rfl
@[simp] theorem busError_errIllegal (s : State) : (busError s).errIllegal = s.errIllegal := rfl
@[simp] theorem busError_cntCycle (s : State) : (busError s).cntCycle = s.cntCycle := rfl
@[simp] theorem busError_cntInstret (s : State) : (busError s).cntInstret = s.cntInstret := rfl
@[simp] theorem busError_pins (s : State) : (busError s).pins = s.pins := rfl
@[simp] theorem busError_upcoming (s : State) : (busError s).upcoming = s.upcoming := rfl
@[simp] theorem busError_outputs (s : State) : (busError s).outputs = ⟨some 0#32, true, none, false⟩ := rfl
@[simp] theorem busError_cycle (s : State) : (busError s).cycle = s.cycle := rfl
@[simp] theorem busError_trace (s : State) : (busError s).trace = s.trace := rfl

@[simp] theorem devWrite_params (v : Byte) (s : State) : (devWrite v s).params = s.params := rfl
@[simp] theorem devWrite_wcrState (v : Byte) (s : State) : (devWrite v s).wcrState = s.wcrState := rfl
@[simp] theorem devWrite_wcrKind (v : Byte) (s : State) : (devWrite v s).wcrKind = s.wcrKind := rfl
@[simp] theorem devWrite_wcrH1 (v : Byte) (s : State) : (devWrite v s).wcrH1 = s.wcrH1 := rfl
@[simp] theorem devWrite_wcrL1 (v : Byte) (s : State) : (devWrite v s).wcrL1 = s.wcrL1 := rfl
@[simp] theorem devWrite_wcrH2 (v : Byte) (s : State) : (devWrite v s).wcrH2 = s.wcrH2 := rfl
@[simp] theorem devWrite_wcrL2 (v : Byte) (s : State) : (devWrite v s).wcrL2 = s.wcrL2 := rfl
@[simp] theorem devWrite_wcrRes (v : Byte) (s : State) : (devWrite v s).wcrRes = s.wcrRes := rfl
@[simp] theorem devWrite_wcrValid (v : Byte) (s : State) : (devWrite v s).wcrValid = s.wcrValid := rfl
@[simp] theorem devWrite_wcrWrap (v : Byte) (s : State) : (devWrite v s).wcrWrap = s.wcrWrap := rfl
@[simp] theorem devWrite_rrState (v : Byte) (s : State) : (devWrite v s).rrState = s.rrState := rfl
@[simp] theorem devWrite_rrFrame (v : Byte) (s : State) : (devWrite v s).rrFrame = s.rrFrame := rfl
@[simp] theorem devWrite_rrVidx (v : Byte) (s : State) : (devWrite v s).rrVidx = s.rrVidx := rfl
@[simp] theorem devWrite_rrLast (v : Byte) (s : State) : (devWrite v s).rrLast = s.rrLast := rfl
@[simp] theorem devWrite_rrLoop (v : Byte) (s : State) : (devWrite v s).rrLoop = s.rrLoop := rfl
@[simp] theorem devWrite_rrTimer (v : Byte) (s : State) : (devWrite v s).rrTimer = s.rrTimer := rfl
@[simp] theorem devWrite_rrVal0 (v : Byte) (s : State) : (devWrite v s).rrVal0 = s.rrVal0 := rfl
@[simp] theorem devWrite_rrVal1 (v : Byte) (s : State) : (devWrite v s).rrVal1 = s.rrVal1 := rfl
@[simp] theorem devWrite_out (v : Byte) (s : State) : (devWrite v s).out = v := rfl
@[simp] theorem devWrite_errBusy (v : Byte) (s : State) : (devWrite v s).errBusy = s.errBusy := rfl
@[simp] theorem devWrite_errIllegal (v : Byte) (s : State) : (devWrite v s).errIllegal = s.errIllegal := rfl
@[simp] theorem devWrite_cntCycle (v : Byte) (s : State) : (devWrite v s).cntCycle = s.cntCycle := rfl
@[simp] theorem devWrite_cntInstret (v : Byte) (s : State) : (devWrite v s).cntInstret = s.cntInstret := rfl
@[simp] theorem devWrite_pins (v : Byte) (s : State) : (devWrite v s).pins = s.pins := rfl
@[simp] theorem devWrite_upcoming (v : Byte) (s : State) : (devWrite v s).upcoming = s.upcoming := rfl
@[simp] theorem devWrite_outputs (v : Byte) (s : State) : (devWrite v s).outputs = ⟨s.outputs.busRdata, s.outputs.busErr, s.outputs.cnt, true⟩ := rfl
@[simp] theorem devWrite_cycle (v : Byte) (s : State) : (devWrite v s).cycle = s.cycle := rfl
@[simp] theorem devWrite_trace (v : Byte) (s : State) : (devWrite v s).trace = s.trace := rfl

@[simp] theorem driveCounterPort_params (s0 : State) (h : Half) (s : State) : (driveCounterPort s0 h s).params = s.params := rfl
@[simp] theorem driveCounterPort_wcrState (s0 : State) (h : Half) (s : State) : (driveCounterPort s0 h s).wcrState = s.wcrState := rfl
@[simp] theorem driveCounterPort_wcrKind (s0 : State) (h : Half) (s : State) : (driveCounterPort s0 h s).wcrKind = s.wcrKind := rfl
@[simp] theorem driveCounterPort_wcrH1 (s0 : State) (h : Half) (s : State) : (driveCounterPort s0 h s).wcrH1 = s.wcrH1 := rfl
@[simp] theorem driveCounterPort_wcrL1 (s0 : State) (h : Half) (s : State) : (driveCounterPort s0 h s).wcrL1 = s.wcrL1 := rfl
@[simp] theorem driveCounterPort_wcrH2 (s0 : State) (h : Half) (s : State) : (driveCounterPort s0 h s).wcrH2 = s.wcrH2 := rfl
@[simp] theorem driveCounterPort_wcrL2 (s0 : State) (h : Half) (s : State) : (driveCounterPort s0 h s).wcrL2 = s.wcrL2 := rfl
@[simp] theorem driveCounterPort_wcrRes (s0 : State) (h : Half) (s : State) : (driveCounterPort s0 h s).wcrRes = s.wcrRes := rfl
@[simp] theorem driveCounterPort_wcrValid (s0 : State) (h : Half) (s : State) : (driveCounterPort s0 h s).wcrValid = s.wcrValid := rfl
@[simp] theorem driveCounterPort_wcrWrap (s0 : State) (h : Half) (s : State) : (driveCounterPort s0 h s).wcrWrap = s.wcrWrap := rfl
@[simp] theorem driveCounterPort_rrState (s0 : State) (h : Half) (s : State) : (driveCounterPort s0 h s).rrState = s.rrState := rfl
@[simp] theorem driveCounterPort_rrFrame (s0 : State) (h : Half) (s : State) : (driveCounterPort s0 h s).rrFrame = s.rrFrame := rfl
@[simp] theorem driveCounterPort_rrVidx (s0 : State) (h : Half) (s : State) : (driveCounterPort s0 h s).rrVidx = s.rrVidx := rfl
@[simp] theorem driveCounterPort_rrLast (s0 : State) (h : Half) (s : State) : (driveCounterPort s0 h s).rrLast = s.rrLast := rfl
@[simp] theorem driveCounterPort_rrLoop (s0 : State) (h : Half) (s : State) : (driveCounterPort s0 h s).rrLoop = s.rrLoop := rfl
@[simp] theorem driveCounterPort_rrTimer (s0 : State) (h : Half) (s : State) : (driveCounterPort s0 h s).rrTimer = s.rrTimer := rfl
@[simp] theorem driveCounterPort_rrVal0 (s0 : State) (h : Half) (s : State) : (driveCounterPort s0 h s).rrVal0 = s.rrVal0 := rfl
@[simp] theorem driveCounterPort_rrVal1 (s0 : State) (h : Half) (s : State) : (driveCounterPort s0 h s).rrVal1 = s.rrVal1 := rfl
@[simp] theorem driveCounterPort_out (s0 : State) (h : Half) (s : State) : (driveCounterPort s0 h s).out = s.out := rfl
@[simp] theorem driveCounterPort_errBusy (s0 : State) (h : Half) (s : State) : (driveCounterPort s0 h s).errBusy = s.errBusy := rfl
@[simp] theorem driveCounterPort_errIllegal (s0 : State) (h : Half) (s : State) : (driveCounterPort s0 h s).errIllegal = s.errIllegal := rfl
@[simp] theorem driveCounterPort_cntCycle (s0 : State) (h : Half) (s : State) : (driveCounterPort s0 h s).cntCycle = s.cntCycle := rfl
@[simp] theorem driveCounterPort_cntInstret (s0 : State) (h : Half) (s : State) : (driveCounterPort s0 h s).cntInstret = s.cntInstret := rfl
@[simp] theorem driveCounterPort_pins (s0 : State) (h : Half) (s : State) : (driveCounterPort s0 h s).pins = s.pins := rfl
@[simp] theorem driveCounterPort_upcoming (s0 : State) (h : Half) (s : State) : (driveCounterPort s0 h s).upcoming = s.upcoming := rfl
@[simp] theorem driveCounterPort_outputs (s0 : State) (h : Half) (s : State) : (driveCounterPort s0 h s).outputs = ⟨s.outputs.busRdata, s.outputs.busErr, some ⟨s0.wcrKind, h, readHalf s0 s0.wcrKind h⟩, s.outputs.outWe⟩ := rfl
@[simp] theorem driveCounterPort_cycle (s0 : State) (h : Half) (s : State) : (driveCounterPort s0 h s).cycle = s.cycle := rfl
@[simp] theorem driveCounterPort_trace (s0 : State) (h : Half) (s : State) : (driveCounterPort s0 h s).trace = s.trace := rfl

@[simp] theorem setErrBusy_params (s : State) : (setErrBusy s).params = s.params := rfl
@[simp] theorem setErrBusy_wcrState (s : State) : (setErrBusy s).wcrState = s.wcrState := rfl
@[simp] theorem setErrBusy_wcrKind (s : State) : (setErrBusy s).wcrKind = s.wcrKind := rfl
@[simp] theorem setErrBusy_wcrH1 (s : State) : (setErrBusy s).wcrH1 = s.wcrH1 := rfl
@[simp] theorem setErrBusy_wcrL1 (s : State) : (setErrBusy s).wcrL1 = s.wcrL1 := rfl
@[simp] theorem setErrBusy_wcrH2 (s : State) : (setErrBusy s).wcrH2 = s.wcrH2 := rfl
@[simp] theorem setErrBusy_wcrL2 (s : State) : (setErrBusy s).wcrL2 = s.wcrL2 := rfl
@[simp] theorem setErrBusy_wcrRes (s : State) : (setErrBusy s).wcrRes = s.wcrRes := rfl
@[simp] theorem setErrBusy_wcrValid (s : State) : (setErrBusy s).wcrValid = s.wcrValid := rfl
@[simp] theorem setErrBusy_wcrWrap (s : State) : (setErrBusy s).wcrWrap = s.wcrWrap := rfl
@[simp] theorem setErrBusy_rrState (s : State) : (setErrBusy s).rrState = s.rrState := rfl
@[simp] theorem setErrBusy_rrFrame (s : State) : (setErrBusy s).rrFrame = s.rrFrame := rfl
@[simp] theorem setErrBusy_rrVidx (s : State) : (setErrBusy s).rrVidx = s.rrVidx := rfl
@[simp] theorem setErrBusy_rrLast (s : State) : (setErrBusy s).rrLast = s.rrLast := rfl
@[simp] theorem setErrBusy_rrLoop (s : State) : (setErrBusy s).rrLoop = s.rrLoop := rfl
@[simp] theorem setErrBusy_rrTimer (s : State) : (setErrBusy s).rrTimer = s.rrTimer := rfl
@[simp] theorem setErrBusy_rrVal0 (s : State) : (setErrBusy s).rrVal0 = s.rrVal0 := rfl
@[simp] theorem setErrBusy_rrVal1 (s : State) : (setErrBusy s).rrVal1 = s.rrVal1 := rfl
@[simp] theorem setErrBusy_out (s : State) : (setErrBusy s).out = s.out := rfl
@[simp] theorem setErrBusy_errBusy (s : State) : (setErrBusy s).errBusy = true := rfl
@[simp] theorem setErrBusy_errIllegal (s : State) : (setErrBusy s).errIllegal = s.errIllegal := rfl
@[simp] theorem setErrBusy_cntCycle (s : State) : (setErrBusy s).cntCycle = s.cntCycle := rfl
@[simp] theorem setErrBusy_cntInstret (s : State) : (setErrBusy s).cntInstret = s.cntInstret := rfl
@[simp] theorem setErrBusy_pins (s : State) : (setErrBusy s).pins = s.pins := rfl
@[simp] theorem setErrBusy_upcoming (s : State) : (setErrBusy s).upcoming = s.upcoming := rfl
@[simp] theorem setErrBusy_outputs (s : State) : (setErrBusy s).outputs = s.outputs := rfl
@[simp] theorem setErrBusy_cycle (s : State) : (setErrBusy s).cycle = s.cycle := rfl
@[simp] theorem setErrBusy_trace (s : State) : (setErrBusy s).trace = s.trace := rfl

@[simp] theorem setErrIllegal_params (s : State) : (setErrIllegal s).params = s.params := rfl
@[simp] theorem setErrIllegal_wcrState (s : State) : (setErrIllegal s).wcrState = s.wcrState := rfl
@[simp] theorem setErrIllegal_wcrKind (s : State) : (setErrIllegal s).wcrKind = s.wcrKind := rfl
@[simp] theorem setErrIllegal_wcrH1 (s : State) : (setErrIllegal s).wcrH1 = s.wcrH1 := rfl
@[simp] theorem setErrIllegal_wcrL1 (s : State) : (setErrIllegal s).wcrL1 = s.wcrL1 := rfl
@[simp] theorem setErrIllegal_wcrH2 (s : State) : (setErrIllegal s).wcrH2 = s.wcrH2 := rfl
@[simp] theorem setErrIllegal_wcrL2 (s : State) : (setErrIllegal s).wcrL2 = s.wcrL2 := rfl
@[simp] theorem setErrIllegal_wcrRes (s : State) : (setErrIllegal s).wcrRes = s.wcrRes := rfl
@[simp] theorem setErrIllegal_wcrValid (s : State) : (setErrIllegal s).wcrValid = s.wcrValid := rfl
@[simp] theorem setErrIllegal_wcrWrap (s : State) : (setErrIllegal s).wcrWrap = s.wcrWrap := rfl
@[simp] theorem setErrIllegal_rrState (s : State) : (setErrIllegal s).rrState = s.rrState := rfl
@[simp] theorem setErrIllegal_rrFrame (s : State) : (setErrIllegal s).rrFrame = s.rrFrame := rfl
@[simp] theorem setErrIllegal_rrVidx (s : State) : (setErrIllegal s).rrVidx = s.rrVidx := rfl
@[simp] theorem setErrIllegal_rrLast (s : State) : (setErrIllegal s).rrLast = s.rrLast := rfl
@[simp] theorem setErrIllegal_rrLoop (s : State) : (setErrIllegal s).rrLoop = s.rrLoop := rfl
@[simp] theorem setErrIllegal_rrTimer (s : State) : (setErrIllegal s).rrTimer = s.rrTimer := rfl
@[simp] theorem setErrIllegal_rrVal0 (s : State) : (setErrIllegal s).rrVal0 = s.rrVal0 := rfl
@[simp] theorem setErrIllegal_rrVal1 (s : State) : (setErrIllegal s).rrVal1 = s.rrVal1 := rfl
@[simp] theorem setErrIllegal_out (s : State) : (setErrIllegal s).out = s.out := rfl
@[simp] theorem setErrIllegal_errBusy (s : State) : (setErrIllegal s).errBusy = s.errBusy := rfl
@[simp] theorem setErrIllegal_errIllegal (s : State) : (setErrIllegal s).errIllegal = true := rfl
@[simp] theorem setErrIllegal_cntCycle (s : State) : (setErrIllegal s).cntCycle = s.cntCycle := rfl
@[simp] theorem setErrIllegal_cntInstret (s : State) : (setErrIllegal s).cntInstret = s.cntInstret := rfl
@[simp] theorem setErrIllegal_pins (s : State) : (setErrIllegal s).pins = s.pins := rfl
@[simp] theorem setErrIllegal_upcoming (s : State) : (setErrIllegal s).upcoming = s.upcoming := rfl
@[simp] theorem setErrIllegal_outputs (s : State) : (setErrIllegal s).outputs = s.outputs := rfl
@[simp] theorem setErrIllegal_cycle (s : State) : (setErrIllegal s).cycle = s.cycle := rfl
@[simp] theorem setErrIllegal_trace (s : State) : (setErrIllegal s).trace = s.trace := rfl

@[simp] theorem clearErrors_params (s : State) : (clearErrors s).params = s.params := rfl
@[simp] theorem clearErrors_wcrState (s : State) : (clearErrors s).wcrState = s.wcrState := rfl
@[simp] theorem clearErrors_wcrKind (s : State) : (clearErrors s).wcrKind = s.wcrKind := rfl
@[simp] theorem clearErrors_wcrH1 (s : State) : (clearErrors s).wcrH1 = s.wcrH1 := rfl
@[simp] theorem clearErrors_wcrL1 (s : State) : (clearErrors s).wcrL1 = s.wcrL1 := rfl
@[simp] theorem clearErrors_wcrH2 (s : State) : (clearErrors s).wcrH2 = s.wcrH2 := rfl
@[simp] theorem clearErrors_wcrL2 (s : State) : (clearErrors s).wcrL2 = s.wcrL2 := rfl
@[simp] theorem clearErrors_wcrRes (s : State) : (clearErrors s).wcrRes = s.wcrRes := rfl
@[simp] theorem clearErrors_wcrValid (s : State) : (clearErrors s).wcrValid = s.wcrValid := rfl
@[simp] theorem clearErrors_wcrWrap (s : State) : (clearErrors s).wcrWrap = s.wcrWrap := rfl
@[simp] theorem clearErrors_rrState (s : State) : (clearErrors s).rrState = s.rrState := rfl
@[simp] theorem clearErrors_rrFrame (s : State) : (clearErrors s).rrFrame = s.rrFrame := rfl
@[simp] theorem clearErrors_rrVidx (s : State) : (clearErrors s).rrVidx = s.rrVidx := rfl
@[simp] theorem clearErrors_rrLast (s : State) : (clearErrors s).rrLast = s.rrLast := rfl
@[simp] theorem clearErrors_rrLoop (s : State) : (clearErrors s).rrLoop = s.rrLoop := rfl
@[simp] theorem clearErrors_rrTimer (s : State) : (clearErrors s).rrTimer = s.rrTimer := rfl
@[simp] theorem clearErrors_rrVal0 (s : State) : (clearErrors s).rrVal0 = s.rrVal0 := rfl
@[simp] theorem clearErrors_rrVal1 (s : State) : (clearErrors s).rrVal1 = s.rrVal1 := rfl
@[simp] theorem clearErrors_out (s : State) : (clearErrors s).out = s.out := rfl
@[simp] theorem clearErrors_errBusy (s : State) : (clearErrors s).errBusy = false := rfl
@[simp] theorem clearErrors_errIllegal (s : State) : (clearErrors s).errIllegal = false := rfl
@[simp] theorem clearErrors_cntCycle (s : State) : (clearErrors s).cntCycle = s.cntCycle := rfl
@[simp] theorem clearErrors_cntInstret (s : State) : (clearErrors s).cntInstret = s.cntInstret := rfl
@[simp] theorem clearErrors_pins (s : State) : (clearErrors s).pins = s.pins := rfl
@[simp] theorem clearErrors_upcoming (s : State) : (clearErrors s).upcoming = s.upcoming := rfl
@[simp] theorem clearErrors_outputs (s : State) : (clearErrors s).outputs = s.outputs := rfl
@[simp] theorem clearErrors_cycle (s : State) : (clearErrors s).cycle = s.cycle := rfl
@[simp] theorem clearErrors_trace (s : State) : (clearErrors s).trace = s.trace := rfl

@[simp] theorem enterFrame_params (s0 : State) (slot : BitVec 1) (n : BitVec 3) (s : State) : (enterFrame s0 slot n s).params = s.params := rfl
@[simp] theorem enterFrame_wcrState (s0 : State) (slot : BitVec 1) (n : BitVec 3) (s : State) : (enterFrame s0 slot n s).wcrState = s.wcrState := rfl
@[simp] theorem enterFrame_wcrKind (s0 : State) (slot : BitVec 1) (n : BitVec 3) (s : State) : (enterFrame s0 slot n s).wcrKind = s.wcrKind := rfl
@[simp] theorem enterFrame_wcrH1 (s0 : State) (slot : BitVec 1) (n : BitVec 3) (s : State) : (enterFrame s0 slot n s).wcrH1 = s.wcrH1 := rfl
@[simp] theorem enterFrame_wcrL1 (s0 : State) (slot : BitVec 1) (n : BitVec 3) (s : State) : (enterFrame s0 slot n s).wcrL1 = s.wcrL1 := rfl
@[simp] theorem enterFrame_wcrH2 (s0 : State) (slot : BitVec 1) (n : BitVec 3) (s : State) : (enterFrame s0 slot n s).wcrH2 = s.wcrH2 := rfl
@[simp] theorem enterFrame_wcrL2 (s0 : State) (slot : BitVec 1) (n : BitVec 3) (s : State) : (enterFrame s0 slot n s).wcrL2 = s.wcrL2 := rfl
@[simp] theorem enterFrame_wcrRes (s0 : State) (slot : BitVec 1) (n : BitVec 3) (s : State) : (enterFrame s0 slot n s).wcrRes = s.wcrRes := rfl
@[simp] theorem enterFrame_wcrValid (s0 : State) (slot : BitVec 1) (n : BitVec 3) (s : State) : (enterFrame s0 slot n s).wcrValid = s.wcrValid := rfl
@[simp] theorem enterFrame_wcrWrap (s0 : State) (slot : BitVec 1) (n : BitVec 3) (s : State) : (enterFrame s0 slot n s).wcrWrap = s.wcrWrap := rfl
@[simp] theorem enterFrame_rrState (s0 : State) (slot : BitVec 1) (n : BitVec 3) (s : State) : (enterFrame s0 slot n s).rrState = .frame := rfl
@[simp] theorem enterFrame_rrFrame (s0 : State) (slot : BitVec 1) (n : BitVec 3) (s : State) : (enterFrame s0 slot n s).rrFrame = n := rfl
@[simp] theorem enterFrame_rrVidx (s0 : State) (slot : BitVec 1) (n : BitVec 3) (s : State) : (enterFrame s0 slot n s).rrVidx = s.rrVidx := rfl
@[simp] theorem enterFrame_rrLast (s0 : State) (slot : BitVec 1) (n : BitVec 3) (s : State) : (enterFrame s0 slot n s).rrLast = s.rrLast := rfl
@[simp] theorem enterFrame_rrLoop (s0 : State) (slot : BitVec 1) (n : BitVec 3) (s : State) : (enterFrame s0 slot n s).rrLoop = s.rrLoop := rfl
@[simp] theorem enterFrame_rrTimer (s0 : State) (slot : BitVec 1) (n : BitVec 3) (s : State) : (enterFrame s0 slot n s).rrTimer = hold s0 Config.dwellMs := rfl
@[simp] theorem enterFrame_rrVal0 (s0 : State) (slot : BitVec 1) (n : BitVec 3) (s : State) : (enterFrame s0 slot n s).rrVal0 = s.rrVal0 := rfl
@[simp] theorem enterFrame_rrVal1 (s0 : State) (slot : BitVec 1) (n : BitVec 3) (s : State) : (enterFrame s0 slot n s).rrVal1 = s.rrVal1 := rfl
@[simp] theorem enterFrame_out (s0 : State) (slot : BitVec 1) (n : BitVec 3) (s : State) : (enterFrame s0 slot n s).out = phys s0.params (frameByte (slotValue s0 slot) n) := rfl
@[simp] theorem enterFrame_errBusy (s0 : State) (slot : BitVec 1) (n : BitVec 3) (s : State) : (enterFrame s0 slot n s).errBusy = s.errBusy := rfl
@[simp] theorem enterFrame_errIllegal (s0 : State) (slot : BitVec 1) (n : BitVec 3) (s : State) : (enterFrame s0 slot n s).errIllegal = s.errIllegal := rfl
@[simp] theorem enterFrame_cntCycle (s0 : State) (slot : BitVec 1) (n : BitVec 3) (s : State) : (enterFrame s0 slot n s).cntCycle = s.cntCycle := rfl
@[simp] theorem enterFrame_cntInstret (s0 : State) (slot : BitVec 1) (n : BitVec 3) (s : State) : (enterFrame s0 slot n s).cntInstret = s.cntInstret := rfl
@[simp] theorem enterFrame_pins (s0 : State) (slot : BitVec 1) (n : BitVec 3) (s : State) : (enterFrame s0 slot n s).pins = s.pins := rfl
@[simp] theorem enterFrame_upcoming (s0 : State) (slot : BitVec 1) (n : BitVec 3) (s : State) : (enterFrame s0 slot n s).upcoming = s.upcoming := rfl
@[simp] theorem enterFrame_outputs (s0 : State) (slot : BitVec 1) (n : BitVec 3) (s : State) : (enterFrame s0 slot n s).outputs = ⟨s.outputs.busRdata, s.outputs.busErr, s.outputs.cnt, true⟩ := rfl
@[simp] theorem enterFrame_cycle (s0 : State) (slot : BitVec 1) (n : BitVec 3) (s : State) : (enterFrame s0 slot n s).cycle = s.cycle := rfl
@[simp] theorem enterFrame_trace (s0 : State) (slot : BitVec 1) (n : BitVec 3) (s : State) : (enterFrame s0 slot n s).trace = s.trace := rfl

@[simp] theorem timerTick_params (s0 s : State) : (timerTick s0 s).params = s.params := rfl
@[simp] theorem timerTick_wcrState (s0 s : State) : (timerTick s0 s).wcrState = s.wcrState := rfl
@[simp] theorem timerTick_wcrKind (s0 s : State) : (timerTick s0 s).wcrKind = s.wcrKind := rfl
@[simp] theorem timerTick_wcrH1 (s0 s : State) : (timerTick s0 s).wcrH1 = s.wcrH1 := rfl
@[simp] theorem timerTick_wcrL1 (s0 s : State) : (timerTick s0 s).wcrL1 = s.wcrL1 := rfl
@[simp] theorem timerTick_wcrH2 (s0 s : State) : (timerTick s0 s).wcrH2 = s.wcrH2 := rfl
@[simp] theorem timerTick_wcrL2 (s0 s : State) : (timerTick s0 s).wcrL2 = s.wcrL2 := rfl
@[simp] theorem timerTick_wcrRes (s0 s : State) : (timerTick s0 s).wcrRes = s.wcrRes := rfl
@[simp] theorem timerTick_wcrValid (s0 s : State) : (timerTick s0 s).wcrValid = s.wcrValid := rfl
@[simp] theorem timerTick_wcrWrap (s0 s : State) : (timerTick s0 s).wcrWrap = s.wcrWrap := rfl
@[simp] theorem timerTick_rrState (s0 s : State) : (timerTick s0 s).rrState = s.rrState := rfl
@[simp] theorem timerTick_rrFrame (s0 s : State) : (timerTick s0 s).rrFrame = s.rrFrame := rfl
@[simp] theorem timerTick_rrVidx (s0 s : State) : (timerTick s0 s).rrVidx = s.rrVidx := rfl
@[simp] theorem timerTick_rrLast (s0 s : State) : (timerTick s0 s).rrLast = s.rrLast := rfl
@[simp] theorem timerTick_rrLoop (s0 s : State) : (timerTick s0 s).rrLoop = s.rrLoop := rfl
@[simp] theorem timerTick_rrTimer (s0 s : State) : (timerTick s0 s).rrTimer = s0.rrTimer - 1#64 := rfl
@[simp] theorem timerTick_rrVal0 (s0 s : State) : (timerTick s0 s).rrVal0 = s.rrVal0 := rfl
@[simp] theorem timerTick_rrVal1 (s0 s : State) : (timerTick s0 s).rrVal1 = s.rrVal1 := rfl
@[simp] theorem timerTick_out (s0 s : State) : (timerTick s0 s).out = s.out := rfl
@[simp] theorem timerTick_errBusy (s0 s : State) : (timerTick s0 s).errBusy = s.errBusy := rfl
@[simp] theorem timerTick_errIllegal (s0 s : State) : (timerTick s0 s).errIllegal = s.errIllegal := rfl
@[simp] theorem timerTick_cntCycle (s0 s : State) : (timerTick s0 s).cntCycle = s.cntCycle := rfl
@[simp] theorem timerTick_cntInstret (s0 s : State) : (timerTick s0 s).cntInstret = s.cntInstret := rfl
@[simp] theorem timerTick_pins (s0 s : State) : (timerTick s0 s).pins = s.pins := rfl
@[simp] theorem timerTick_upcoming (s0 s : State) : (timerTick s0 s).upcoming = s.upcoming := rfl
@[simp] theorem timerTick_outputs (s0 s : State) : (timerTick s0 s).outputs = s.outputs := rfl
@[simp] theorem timerTick_cycle (s0 s : State) : (timerTick s0 s).cycle = s.cycle := rfl
@[simp] theorem timerTick_trace (s0 s : State) : (timerTick s0 s).trace = s.trace := rfl

@[simp] theorem recordEvents_params (s0 s : State) : (recordEvents s0 s).params = s.params := rfl
@[simp] theorem recordEvents_wcrState (s0 s : State) : (recordEvents s0 s).wcrState = s.wcrState := rfl
@[simp] theorem recordEvents_wcrKind (s0 s : State) : (recordEvents s0 s).wcrKind = s.wcrKind := rfl
@[simp] theorem recordEvents_wcrH1 (s0 s : State) : (recordEvents s0 s).wcrH1 = s.wcrH1 := rfl
@[simp] theorem recordEvents_wcrL1 (s0 s : State) : (recordEvents s0 s).wcrL1 = s.wcrL1 := rfl
@[simp] theorem recordEvents_wcrH2 (s0 s : State) : (recordEvents s0 s).wcrH2 = s.wcrH2 := rfl
@[simp] theorem recordEvents_wcrL2 (s0 s : State) : (recordEvents s0 s).wcrL2 = s.wcrL2 := rfl
@[simp] theorem recordEvents_wcrRes (s0 s : State) : (recordEvents s0 s).wcrRes = s.wcrRes := rfl
@[simp] theorem recordEvents_wcrValid (s0 s : State) : (recordEvents s0 s).wcrValid = s.wcrValid := rfl
@[simp] theorem recordEvents_wcrWrap (s0 s : State) : (recordEvents s0 s).wcrWrap = s.wcrWrap := rfl
@[simp] theorem recordEvents_rrState (s0 s : State) : (recordEvents s0 s).rrState = s.rrState := rfl
@[simp] theorem recordEvents_rrFrame (s0 s : State) : (recordEvents s0 s).rrFrame = s.rrFrame := rfl
@[simp] theorem recordEvents_rrVidx (s0 s : State) : (recordEvents s0 s).rrVidx = s.rrVidx := rfl
@[simp] theorem recordEvents_rrLast (s0 s : State) : (recordEvents s0 s).rrLast = s.rrLast := rfl
@[simp] theorem recordEvents_rrLoop (s0 s : State) : (recordEvents s0 s).rrLoop = s.rrLoop := rfl
@[simp] theorem recordEvents_rrTimer (s0 s : State) : (recordEvents s0 s).rrTimer = s.rrTimer := rfl
@[simp] theorem recordEvents_rrVal0 (s0 s : State) : (recordEvents s0 s).rrVal0 = s.rrVal0 := rfl
@[simp] theorem recordEvents_rrVal1 (s0 s : State) : (recordEvents s0 s).rrVal1 = s.rrVal1 := rfl
@[simp] theorem recordEvents_out (s0 s : State) : (recordEvents s0 s).out = s.out := rfl
@[simp] theorem recordEvents_errBusy (s0 s : State) : (recordEvents s0 s).errBusy = s.errBusy := rfl
@[simp] theorem recordEvents_errIllegal (s0 s : State) : (recordEvents s0 s).errIllegal = s.errIllegal := rfl
@[simp] theorem recordEvents_cntCycle (s0 s : State) : (recordEvents s0 s).cntCycle = s.cntCycle := rfl
@[simp] theorem recordEvents_cntInstret (s0 s : State) : (recordEvents s0 s).cntInstret = s.cntInstret := rfl
@[simp] theorem recordEvents_pins (s0 s : State) : (recordEvents s0 s).pins = s.pins := rfl
@[simp] theorem recordEvents_upcoming (s0 s : State) : (recordEvents s0 s).upcoming = s.upcoming := rfl
@[simp] theorem recordEvents_outputs (s0 s : State) : (recordEvents s0 s).outputs = s.outputs := rfl
@[simp] theorem recordEvents_cycle (s0 s : State) : (recordEvents s0 s).cycle = s.cycle := rfl
@[simp] theorem recordEvents_trace (s0 s : State) : (recordEvents s0 s).trace = s.trace ++ cycleEvents s0.cycle s0.pins.bus s.outputs s.out := rfl

@[simp] theorem advanceEnvironment_params (s0 s : State) : (advanceEnvironment s0 s).params = s.params := rfl
@[simp] theorem advanceEnvironment_wcrState (s0 s : State) : (advanceEnvironment s0 s).wcrState = s.wcrState := rfl
@[simp] theorem advanceEnvironment_wcrKind (s0 s : State) : (advanceEnvironment s0 s).wcrKind = s.wcrKind := rfl
@[simp] theorem advanceEnvironment_wcrH1 (s0 s : State) : (advanceEnvironment s0 s).wcrH1 = s.wcrH1 := rfl
@[simp] theorem advanceEnvironment_wcrL1 (s0 s : State) : (advanceEnvironment s0 s).wcrL1 = s.wcrL1 := rfl
@[simp] theorem advanceEnvironment_wcrH2 (s0 s : State) : (advanceEnvironment s0 s).wcrH2 = s.wcrH2 := rfl
@[simp] theorem advanceEnvironment_wcrL2 (s0 s : State) : (advanceEnvironment s0 s).wcrL2 = s.wcrL2 := rfl
@[simp] theorem advanceEnvironment_wcrRes (s0 s : State) : (advanceEnvironment s0 s).wcrRes = s.wcrRes := rfl
@[simp] theorem advanceEnvironment_wcrValid (s0 s : State) : (advanceEnvironment s0 s).wcrValid = s.wcrValid := rfl
@[simp] theorem advanceEnvironment_wcrWrap (s0 s : State) : (advanceEnvironment s0 s).wcrWrap = s.wcrWrap := rfl
@[simp] theorem advanceEnvironment_rrState (s0 s : State) : (advanceEnvironment s0 s).rrState = s.rrState := rfl
@[simp] theorem advanceEnvironment_rrFrame (s0 s : State) : (advanceEnvironment s0 s).rrFrame = s.rrFrame := rfl
@[simp] theorem advanceEnvironment_rrVidx (s0 s : State) : (advanceEnvironment s0 s).rrVidx = s.rrVidx := rfl
@[simp] theorem advanceEnvironment_rrLast (s0 s : State) : (advanceEnvironment s0 s).rrLast = s.rrLast := rfl
@[simp] theorem advanceEnvironment_rrLoop (s0 s : State) : (advanceEnvironment s0 s).rrLoop = s.rrLoop := rfl
@[simp] theorem advanceEnvironment_rrTimer (s0 s : State) : (advanceEnvironment s0 s).rrTimer = s.rrTimer := rfl
@[simp] theorem advanceEnvironment_rrVal0 (s0 s : State) : (advanceEnvironment s0 s).rrVal0 = s.rrVal0 := rfl
@[simp] theorem advanceEnvironment_rrVal1 (s0 s : State) : (advanceEnvironment s0 s).rrVal1 = s.rrVal1 := rfl
@[simp] theorem advanceEnvironment_out (s0 s : State) : (advanceEnvironment s0 s).out = s.out := rfl
@[simp] theorem advanceEnvironment_errBusy (s0 s : State) : (advanceEnvironment s0 s).errBusy = s.errBusy := rfl
@[simp] theorem advanceEnvironment_errIllegal (s0 s : State) : (advanceEnvironment s0 s).errIllegal = s.errIllegal := rfl
@[simp] theorem advanceEnvironment_cntCycle (s0 s : State) : (advanceEnvironment s0 s).cntCycle = s0.cntCycle + counterAdvance s0 .cycle := rfl
@[simp] theorem advanceEnvironment_cntInstret (s0 s : State) : (advanceEnvironment s0 s).cntInstret = s0.cntInstret + counterAdvance s0 .instret := rfl
@[simp] theorem advanceEnvironment_pins (s0 s : State) : (advanceEnvironment s0 s).pins = nextPins s0 := rfl
@[simp] theorem advanceEnvironment_upcoming (s0 s : State) : (advanceEnvironment s0 s).upcoming = s0.upcoming.tail := rfl
@[simp] theorem advanceEnvironment_outputs (s0 s : State) : (advanceEnvironment s0 s).outputs = s.outputs := rfl
@[simp] theorem advanceEnvironment_cycle (s0 s : State) : (advanceEnvironment s0 s).cycle = s0.cycle + 1 := rfl
@[simp] theorem advanceEnvironment_trace (s0 s : State) : (advanceEnvironment s0 s).trace = s.trace := rfl

end Sys2Proof.Machine
end

