-- ==== Sys2Proof/Laws/Units.lean ====
section
/-!
SUPPORT. What the sequencers' steps, the end of a cycle and a step can do, each said once: the WCR's step touches only WCR registers and the
counter port (R134), the RR's only RR registers and the output (R134), and a step is a reset cycle, a refusal, or the host access of the cycle
followed by the end of the cycle.
-/

namespace Sys2Proof.Machine

@[simp] theorem wcrStep_params (s0 s : State) : (wcrStep s0 s).params = s.params := by
  unfold wcrStep
  split <;> first | rfl | (simp only [stepRdH2]; split <;> rfl)

@[simp] theorem wcrStep_rrState (s0 s : State) : (wcrStep s0 s).rrState = s.rrState := by
  unfold wcrStep
  split <;> first | rfl | (simp only [stepRdH2]; split <;> rfl)

@[simp] theorem wcrStep_rrFrame (s0 s : State) : (wcrStep s0 s).rrFrame = s.rrFrame := by
  unfold wcrStep
  split <;> first | rfl | (simp only [stepRdH2]; split <;> rfl)

@[simp] theorem wcrStep_rrVidx (s0 s : State) : (wcrStep s0 s).rrVidx = s.rrVidx := by
  unfold wcrStep
  split <;> first | rfl | (simp only [stepRdH2]; split <;> rfl)

@[simp] theorem wcrStep_rrLast (s0 s : State) : (wcrStep s0 s).rrLast = s.rrLast := by
  unfold wcrStep
  split <;> first | rfl | (simp only [stepRdH2]; split <;> rfl)

@[simp] theorem wcrStep_rrLoop (s0 s : State) : (wcrStep s0 s).rrLoop = s.rrLoop := by
  unfold wcrStep
  split <;> first | rfl | (simp only [stepRdH2]; split <;> rfl)

@[simp] theorem wcrStep_rrTimer (s0 s : State) : (wcrStep s0 s).rrTimer = s.rrTimer := by
  unfold wcrStep
  split <;> first | rfl | (simp only [stepRdH2]; split <;> rfl)

@[simp] theorem wcrStep_rrVal0 (s0 s : State) : (wcrStep s0 s).rrVal0 = s.rrVal0 := by
  unfold wcrStep
  split <;> first | rfl | (simp only [stepRdH2]; split <;> rfl)

@[simp] theorem wcrStep_rrVal1 (s0 s : State) : (wcrStep s0 s).rrVal1 = s.rrVal1 := by
  unfold wcrStep
  split <;> first | rfl | (simp only [stepRdH2]; split <;> rfl)

@[simp] theorem wcrStep_out (s0 s : State) : (wcrStep s0 s).out = s.out := by
  unfold wcrStep
  split <;> first | rfl | (simp only [stepRdH2]; split <;> rfl)

@[simp] theorem wcrStep_errBusy (s0 s : State) : (wcrStep s0 s).errBusy = s.errBusy := by
  unfold wcrStep
  split <;> first | rfl | (simp only [stepRdH2]; split <;> rfl)

@[simp] theorem wcrStep_errIllegal (s0 s : State) : (wcrStep s0 s).errIllegal = s.errIllegal := by
  unfold wcrStep
  split <;> first | rfl | (simp only [stepRdH2]; split <;> rfl)

@[simp] theorem wcrStep_cntCycle (s0 s : State) : (wcrStep s0 s).cntCycle = s.cntCycle := by
  unfold wcrStep
  split <;> first | rfl | (simp only [stepRdH2]; split <;> rfl)

@[simp] theorem wcrStep_cntInstret (s0 s : State) : (wcrStep s0 s).cntInstret = s.cntInstret := by
  unfold wcrStep
  split <;> first | rfl | (simp only [stepRdH2]; split <;> rfl)

@[simp] theorem wcrStep_pins (s0 s : State) : (wcrStep s0 s).pins = s.pins := by
  unfold wcrStep
  split <;> first | rfl | (simp only [stepRdH2]; split <;> rfl)

@[simp] theorem wcrStep_upcoming (s0 s : State) : (wcrStep s0 s).upcoming = s.upcoming := by
  unfold wcrStep
  split <;> first | rfl | (simp only [stepRdH2]; split <;> rfl)

@[simp] theorem wcrStep_cycle (s0 s : State) : (wcrStep s0 s).cycle = s.cycle := by
  unfold wcrStep
  split <;> first | rfl | (simp only [stepRdH2]; split <;> rfl)

@[simp] theorem wcrStep_trace (s0 s : State) : (wcrStep s0 s).trace = s.trace := by
  unfold wcrStep
  split <;> first | rfl | (simp only [stepRdH2]; split <;> rfl)

/-- The RR's step: nothing without a hold, one tick while the timer runs, the state's exit when it has run out. -/
theorem rrStep_cases (s0 s : State) :
    (rrHolds s0.rrState = false ∧ rrStep s0 s = s)
    ∨ (rrHolds s0.rrState = true ∧ s0.rrTimer ≠ 0#64 ∧ rrStep s0 s = timerTick s0 s)
    ∨ (rrHolds s0.rrState = true ∧ s0.rrTimer = 0#64 ∧ rrStep s0 s = rrExit s0 s) := by
  unfold rrStep
  by_cases h : rrHolds s0.rrState = true
  · by_cases ht : s0.rrTimer = 0#64
    · exact .inr (.inr ⟨h, ht, by simp [h, ht]⟩)
    · have : s0.rrTimer > 0#64 := by
        simpa [BitVec.lt_def] using Nat.pos_of_ne_zero (fun hz => ht (by simpa using BitVec.eq_of_toNat_eq hz))
      exact .inr (.inl ⟨h, ht, by simp [h, this]⟩)
  · exact .inl ⟨by simpa using h, by simp [h]⟩

@[simp] theorem rrExit_params (s0 s : State) : (rrExit s0 s).params = s.params := by
  unfold rrExit
  split <;> simp only [exitFrame, exitPause, exitGap, exitDoneWait, endOfValue] <;> (try split) <;> rfl

@[simp] theorem rrStep_params (s0 s : State) : (rrStep s0 s).params = s.params := by
  rcases rrStep_cases s0 s with ⟨_, h⟩ | ⟨_, _, h⟩ | ⟨_, _, h⟩ <;> simp [h]

@[simp] theorem rrExit_wcrState (s0 s : State) : (rrExit s0 s).wcrState = s.wcrState := by
  unfold rrExit
  split <;> simp only [exitFrame, exitPause, exitGap, exitDoneWait, endOfValue] <;> (try split) <;> rfl

@[simp] theorem rrStep_wcrState (s0 s : State) : (rrStep s0 s).wcrState = s.wcrState := by
  rcases rrStep_cases s0 s with ⟨_, h⟩ | ⟨_, _, h⟩ | ⟨_, _, h⟩ <;> simp [h]

@[simp] theorem rrExit_wcrKind (s0 s : State) : (rrExit s0 s).wcrKind = s.wcrKind := by
  unfold rrExit
  split <;> simp only [exitFrame, exitPause, exitGap, exitDoneWait, endOfValue] <;> (try split) <;> rfl

@[simp] theorem rrStep_wcrKind (s0 s : State) : (rrStep s0 s).wcrKind = s.wcrKind := by
  rcases rrStep_cases s0 s with ⟨_, h⟩ | ⟨_, _, h⟩ | ⟨_, _, h⟩ <;> simp [h]

@[simp] theorem rrExit_wcrH1 (s0 s : State) : (rrExit s0 s).wcrH1 = s.wcrH1 := by
  unfold rrExit
  split <;> simp only [exitFrame, exitPause, exitGap, exitDoneWait, endOfValue] <;> (try split) <;> rfl

@[simp] theorem rrStep_wcrH1 (s0 s : State) : (rrStep s0 s).wcrH1 = s.wcrH1 := by
  rcases rrStep_cases s0 s with ⟨_, h⟩ | ⟨_, _, h⟩ | ⟨_, _, h⟩ <;> simp [h]

@[simp] theorem rrExit_wcrL1 (s0 s : State) : (rrExit s0 s).wcrL1 = s.wcrL1 := by
  unfold rrExit
  split <;> simp only [exitFrame, exitPause, exitGap, exitDoneWait, endOfValue] <;> (try split) <;> rfl

@[simp] theorem rrStep_wcrL1 (s0 s : State) : (rrStep s0 s).wcrL1 = s.wcrL1 := by
  rcases rrStep_cases s0 s with ⟨_, h⟩ | ⟨_, _, h⟩ | ⟨_, _, h⟩ <;> simp [h]

@[simp] theorem rrExit_wcrH2 (s0 s : State) : (rrExit s0 s).wcrH2 = s.wcrH2 := by
  unfold rrExit
  split <;> simp only [exitFrame, exitPause, exitGap, exitDoneWait, endOfValue] <;> (try split) <;> rfl

@[simp] theorem rrStep_wcrH2 (s0 s : State) : (rrStep s0 s).wcrH2 = s.wcrH2 := by
  rcases rrStep_cases s0 s with ⟨_, h⟩ | ⟨_, _, h⟩ | ⟨_, _, h⟩ <;> simp [h]

@[simp] theorem rrExit_wcrL2 (s0 s : State) : (rrExit s0 s).wcrL2 = s.wcrL2 := by
  unfold rrExit
  split <;> simp only [exitFrame, exitPause, exitGap, exitDoneWait, endOfValue] <;> (try split) <;> rfl

@[simp] theorem rrStep_wcrL2 (s0 s : State) : (rrStep s0 s).wcrL2 = s.wcrL2 := by
  rcases rrStep_cases s0 s with ⟨_, h⟩ | ⟨_, _, h⟩ | ⟨_, _, h⟩ <;> simp [h]

@[simp] theorem rrExit_wcrRes (s0 s : State) : (rrExit s0 s).wcrRes = s.wcrRes := by
  unfold rrExit
  split <;> simp only [exitFrame, exitPause, exitGap, exitDoneWait, endOfValue] <;> (try split) <;> rfl

@[simp] theorem rrStep_wcrRes (s0 s : State) : (rrStep s0 s).wcrRes = s.wcrRes := by
  rcases rrStep_cases s0 s with ⟨_, h⟩ | ⟨_, _, h⟩ | ⟨_, _, h⟩ <;> simp [h]

@[simp] theorem rrExit_wcrValid (s0 s : State) : (rrExit s0 s).wcrValid = s.wcrValid := by
  unfold rrExit
  split <;> simp only [exitFrame, exitPause, exitGap, exitDoneWait, endOfValue] <;> (try split) <;> rfl

@[simp] theorem rrStep_wcrValid (s0 s : State) : (rrStep s0 s).wcrValid = s.wcrValid := by
  rcases rrStep_cases s0 s with ⟨_, h⟩ | ⟨_, _, h⟩ | ⟨_, _, h⟩ <;> simp [h]

@[simp] theorem rrExit_wcrWrap (s0 s : State) : (rrExit s0 s).wcrWrap = s.wcrWrap := by
  unfold rrExit
  split <;> simp only [exitFrame, exitPause, exitGap, exitDoneWait, endOfValue] <;> (try split) <;> rfl

@[simp] theorem rrStep_wcrWrap (s0 s : State) : (rrStep s0 s).wcrWrap = s.wcrWrap := by
  rcases rrStep_cases s0 s with ⟨_, h⟩ | ⟨_, _, h⟩ | ⟨_, _, h⟩ <;> simp [h]

@[simp] theorem rrExit_rrVal0 (s0 s : State) : (rrExit s0 s).rrVal0 = s.rrVal0 := by
  unfold rrExit
  split <;> simp only [exitFrame, exitPause, exitGap, exitDoneWait, endOfValue] <;> (try split) <;> rfl

@[simp] theorem rrStep_rrVal0 (s0 s : State) : (rrStep s0 s).rrVal0 = s.rrVal0 := by
  rcases rrStep_cases s0 s with ⟨_, h⟩ | ⟨_, _, h⟩ | ⟨_, _, h⟩ <;> simp [h]

@[simp] theorem rrExit_rrVal1 (s0 s : State) : (rrExit s0 s).rrVal1 = s.rrVal1 := by
  unfold rrExit
  split <;> simp only [exitFrame, exitPause, exitGap, exitDoneWait, endOfValue] <;> (try split) <;> rfl

@[simp] theorem rrStep_rrVal1 (s0 s : State) : (rrStep s0 s).rrVal1 = s.rrVal1 := by
  rcases rrStep_cases s0 s with ⟨_, h⟩ | ⟨_, _, h⟩ | ⟨_, _, h⟩ <;> simp [h]

@[simp] theorem rrExit_errBusy (s0 s : State) : (rrExit s0 s).errBusy = s.errBusy := by
  unfold rrExit
  split <;> simp only [exitFrame, exitPause, exitGap, exitDoneWait, endOfValue] <;> (try split) <;> rfl

@[simp] theorem rrStep_errBusy (s0 s : State) : (rrStep s0 s).errBusy = s.errBusy := by
  rcases rrStep_cases s0 s with ⟨_, h⟩ | ⟨_, _, h⟩ | ⟨_, _, h⟩ <;> simp [h]

@[simp] theorem rrExit_errIllegal (s0 s : State) : (rrExit s0 s).errIllegal = s.errIllegal := by
  unfold rrExit
  split <;> simp only [exitFrame, exitPause, exitGap, exitDoneWait, endOfValue] <;> (try split) <;> rfl

@[simp] theorem rrStep_errIllegal (s0 s : State) : (rrStep s0 s).errIllegal = s.errIllegal := by
  rcases rrStep_cases s0 s with ⟨_, h⟩ | ⟨_, _, h⟩ | ⟨_, _, h⟩ <;> simp [h]

@[simp] theorem rrExit_cntCycle (s0 s : State) : (rrExit s0 s).cntCycle = s.cntCycle := by
  unfold rrExit
  split <;> simp only [exitFrame, exitPause, exitGap, exitDoneWait, endOfValue] <;> (try split) <;> rfl

@[simp] theorem rrStep_cntCycle (s0 s : State) : (rrStep s0 s).cntCycle = s.cntCycle := by
  rcases rrStep_cases s0 s with ⟨_, h⟩ | ⟨_, _, h⟩ | ⟨_, _, h⟩ <;> simp [h]

@[simp] theorem rrExit_cntInstret (s0 s : State) : (rrExit s0 s).cntInstret = s.cntInstret := by
  unfold rrExit
  split <;> simp only [exitFrame, exitPause, exitGap, exitDoneWait, endOfValue] <;> (try split) <;> rfl

@[simp] theorem rrStep_cntInstret (s0 s : State) : (rrStep s0 s).cntInstret = s.cntInstret := by
  rcases rrStep_cases s0 s with ⟨_, h⟩ | ⟨_, _, h⟩ | ⟨_, _, h⟩ <;> simp [h]

@[simp] theorem rrExit_pins (s0 s : State) : (rrExit s0 s).pins = s.pins := by
  unfold rrExit
  split <;> simp only [exitFrame, exitPause, exitGap, exitDoneWait, endOfValue] <;> (try split) <;> rfl

@[simp] theorem rrStep_pins (s0 s : State) : (rrStep s0 s).pins = s.pins := by
  rcases rrStep_cases s0 s with ⟨_, h⟩ | ⟨_, _, h⟩ | ⟨_, _, h⟩ <;> simp [h]

@[simp] theorem rrExit_upcoming (s0 s : State) : (rrExit s0 s).upcoming = s.upcoming := by
  unfold rrExit
  split <;> simp only [exitFrame, exitPause, exitGap, exitDoneWait, endOfValue] <;> (try split) <;> rfl

@[simp] theorem rrStep_upcoming (s0 s : State) : (rrStep s0 s).upcoming = s.upcoming := by
  rcases rrStep_cases s0 s with ⟨_, h⟩ | ⟨_, _, h⟩ | ⟨_, _, h⟩ <;> simp [h]

@[simp] theorem rrExit_cycle (s0 s : State) : (rrExit s0 s).cycle = s.cycle := by
  unfold rrExit
  split <;> simp only [exitFrame, exitPause, exitGap, exitDoneWait, endOfValue] <;> (try split) <;> rfl

@[simp] theorem rrStep_cycle (s0 s : State) : (rrStep s0 s).cycle = s.cycle := by
  rcases rrStep_cases s0 s with ⟨_, h⟩ | ⟨_, _, h⟩ | ⟨_, _, h⟩ <;> simp [h]

@[simp] theorem rrExit_trace (s0 s : State) : (rrExit s0 s).trace = s.trace := by
  unfold rrExit
  split <;> simp only [exitFrame, exitPause, exitGap, exitDoneWait, endOfValue] <;> (try split) <;> rfl

@[simp] theorem rrStep_trace (s0 s : State) : (rrStep s0 s).trace = s.trace := by
  rcases rrStep_cases s0 s with ⟨_, h⟩ | ⟨_, _, h⟩ | ⟨_, _, h⟩ <;> simp [h]

/-- The counter port and the bus response are not the RR's. -/
@[simp] theorem rrStep_outputs_cnt (s0 s : State) : (rrStep s0 s).outputs.cnt = s.outputs.cnt := by
  rcases rrStep_cases s0 s with ⟨_, h⟩ | ⟨_, _, h⟩ | ⟨_, _, h⟩ <;> simp only [h, timerTick_outputs]
  unfold rrExit
  split <;> simp only [exitFrame, exitPause, exitGap, exitDoneWait, endOfValue] <;> (try split) <;> rfl

@[simp] theorem rrStep_outputs_busRdata (s0 s : State) : (rrStep s0 s).outputs.busRdata = s.outputs.busRdata := by
  rcases rrStep_cases s0 s with ⟨_, h⟩ | ⟨_, _, h⟩ | ⟨_, _, h⟩ <;> simp only [h, timerTick_outputs]
  unfold rrExit
  split <;> simp only [exitFrame, exitPause, exitGap, exitDoneWait, endOfValue] <;> (try split) <;> rfl

@[simp] theorem rrStep_outputs_busErr (s0 s : State) : (rrStep s0 s).outputs.busErr = s.outputs.busErr := by
  rcases rrStep_cases s0 s with ⟨_, h⟩ | ⟨_, _, h⟩ | ⟨_, _, h⟩ <;> simp only [h, timerTick_outputs]
  unfold rrExit
  split <;> simp only [exitFrame, exitPause, exitGap, exitDoneWait, endOfValue] <;> (try split) <;> rfl

/-- The bus response and `out_we` are not the WCR's. -/
@[simp] theorem wcrStep_outputs_outWe (s0 s : State) : (wcrStep s0 s).outputs.outWe = s.outputs.outWe := by
  unfold wcrStep
  split <;> first | rfl | (simp only [stepRdH2]; split <;> rfl)

@[simp] theorem wcrStep_outputs_busRdata (s0 s : State) : (wcrStep s0 s).outputs.busRdata = s.outputs.busRdata := by
  unfold wcrStep
  split <;> first | rfl | (simp only [stepRdH2]; split <;> rfl)

@[simp] theorem wcrStep_outputs_busErr (s0 s : State) : (wcrStep s0 s).outputs.busErr = s.outputs.busErr := by
  unfold wcrStep
  split <;> first | rfl | (simp only [stepRdH2]; split <;> rfl)

@[simp] theorem finishCycle_params (s0 s : State) :
    (finishCycle s0 s).params = s.params := by
  simp [finishCycle]

@[simp] theorem finishCycle_wcrState (s0 s : State) :
    (finishCycle s0 s).wcrState = (wcrStep s0 s).wcrState := by
  simp [finishCycle]

@[simp] theorem finishCycle_wcrKind (s0 s : State) :
    (finishCycle s0 s).wcrKind = (wcrStep s0 s).wcrKind := by
  simp [finishCycle]

@[simp] theorem finishCycle_wcrH1 (s0 s : State) :
    (finishCycle s0 s).wcrH1 = (wcrStep s0 s).wcrH1 := by
  simp [finishCycle]

@[simp] theorem finishCycle_wcrL1 (s0 s : State) :
    (finishCycle s0 s).wcrL1 = (wcrStep s0 s).wcrL1 := by
  simp [finishCycle]

@[simp] theorem finishCycle_wcrH2 (s0 s : State) :
    (finishCycle s0 s).wcrH2 = (wcrStep s0 s).wcrH2 := by
  simp [finishCycle]

@[simp] theorem finishCycle_wcrL2 (s0 s : State) :
    (finishCycle s0 s).wcrL2 = (wcrStep s0 s).wcrL2 := by
  simp [finishCycle]

@[simp] theorem finishCycle_wcrRes (s0 s : State) :
    (finishCycle s0 s).wcrRes = (wcrStep s0 s).wcrRes := by
  simp [finishCycle]

@[simp] theorem finishCycle_wcrValid (s0 s : State) :
    (finishCycle s0 s).wcrValid = (wcrStep s0 s).wcrValid := by
  simp [finishCycle]

@[simp] theorem finishCycle_wcrWrap (s0 s : State) :
    (finishCycle s0 s).wcrWrap = (wcrStep s0 s).wcrWrap := by
  simp [finishCycle]

@[simp] theorem finishCycle_rrState (s0 s : State) :
    (finishCycle s0 s).rrState = (rrStep s0 (wcrStep s0 s)).rrState := by
  simp [finishCycle]

@[simp] theorem finishCycle_rrFrame (s0 s : State) :
    (finishCycle s0 s).rrFrame = (rrStep s0 (wcrStep s0 s)).rrFrame := by
  simp [finishCycle]

@[simp] theorem finishCycle_rrVidx (s0 s : State) :
    (finishCycle s0 s).rrVidx = (rrStep s0 (wcrStep s0 s)).rrVidx := by
  simp [finishCycle]

@[simp] theorem finishCycle_rrLast (s0 s : State) :
    (finishCycle s0 s).rrLast = (rrStep s0 (wcrStep s0 s)).rrLast := by
  simp [finishCycle]

@[simp] theorem finishCycle_rrLoop (s0 s : State) :
    (finishCycle s0 s).rrLoop = (rrStep s0 (wcrStep s0 s)).rrLoop := by
  simp [finishCycle]

@[simp] theorem finishCycle_rrTimer (s0 s : State) :
    (finishCycle s0 s).rrTimer = (rrStep s0 (wcrStep s0 s)).rrTimer := by
  simp [finishCycle]

@[simp] theorem finishCycle_rrVal0 (s0 s : State) :
    (finishCycle s0 s).rrVal0 = s.rrVal0 := by
  simp [finishCycle]

@[simp] theorem finishCycle_rrVal1 (s0 s : State) :
    (finishCycle s0 s).rrVal1 = s.rrVal1 := by
  simp [finishCycle]

@[simp] theorem finishCycle_out (s0 s : State) :
    (finishCycle s0 s).out = (rrStep s0 (wcrStep s0 s)).out := by
  simp [finishCycle]

@[simp] theorem finishCycle_errBusy (s0 s : State) :
    (finishCycle s0 s).errBusy = s.errBusy := by
  simp [finishCycle]

@[simp] theorem finishCycle_errIllegal (s0 s : State) :
    (finishCycle s0 s).errIllegal = s.errIllegal := by
  simp [finishCycle]

@[simp] theorem finishCycle_cntCycle (s0 s : State) :
    (finishCycle s0 s).cntCycle = s0.cntCycle + counterAdvance s0 .cycle := by
  simp [finishCycle]

@[simp] theorem finishCycle_cntInstret (s0 s : State) :
    (finishCycle s0 s).cntInstret = s0.cntInstret + counterAdvance s0 .instret := by
  simp [finishCycle]

@[simp] theorem finishCycle_pins (s0 s : State) :
    (finishCycle s0 s).pins = nextPins s0 := by
  simp [finishCycle]

@[simp] theorem finishCycle_upcoming (s0 s : State) :
    (finishCycle s0 s).upcoming = s0.upcoming.tail := by
  simp [finishCycle]

@[simp] theorem finishCycle_outputs (s0 s : State) :
    (finishCycle s0 s).outputs = (rrStep s0 (wcrStep s0 s)).outputs := by
  simp [finishCycle]

@[simp] theorem finishCycle_cycle (s0 s : State) :
    (finishCycle s0 s).cycle = s0.cycle + 1 := by
  simp [finishCycle]

@[simp] theorem finishCycle_trace (s0 s : State) :
    (finishCycle s0 s).trace = s.trace ++ cycleEvents s0.cycle s0.pins.bus (rrStep s0 (wcrStep s0 s)).outputs (rrStep s0 (wcrStep s0 s)).out := by
  simp [finishCycle]

/-- Every instruction answers a next state, and none touches the parameters, the inputs, the counters, the cycle number or the trace. -/
theorem exec_next (i : Instr) (s : State) :
    ∃ t, exec i s = .next t ∧ t.params = s.params ∧ t.pins = s.pins ∧ t.upcoming = s.upcoming ∧ t.cntCycle = s.cntCycle
      ∧ t.cntInstret = s.cntInstret ∧ t.cycle = s.cycle ∧ t.trace = s.trace ∧ t.outputs.cnt = none := by
  have issued : ∀ c, ∃ t, issue c s = .next t ∧ t.params = s.params ∧ t.pins = s.pins ∧ t.upcoming = s.upcoming
      ∧ t.cntCycle = s.cntCycle ∧ t.cntInstret = s.cntInstret ∧ t.cycle = s.cycle ∧ t.trace = s.trace
      ∧ t.outputs.cnt = none := by
    intro c
    cases c <;> simp only [issue, execNop, execWcrSample, execRrIdle, execRrShow, execRrSeq, execRrDone, execClrStatus,
      execIllegal] <;> (try split) <;> exact ⟨_, rfl, rfl, rfl, rfl, rfl, rfl, rfl, rfl, rfl⟩
  cases i
  case wrCmd w => exact issued (decodeCommand w)
  case nop => exact issued .nop
  case wcrSample k => exact issued (.wcrSample k)
  case rrIdle => exact issued .rrIdle
  case rrShow x => exact issued (.rrShow x)
  case rrSeq c l => exact issued (.rrSeq c l)
  case rrDone => exact issued .rrDone
  case clrStatus => exact issued .clrStatus
  case illegal w => exact issued (.illegal w)
  case wrRrVal0Lo d => simp only [exec, execWrRrVal0Lo, writeSlot]; split <;> exact ⟨_, rfl, rfl, rfl, rfl, rfl, rfl, rfl, rfl, rfl⟩
  case wrRrVal0Hi d => simp only [exec, execWrRrVal0Hi, writeSlot]; split <;> exact ⟨_, rfl, rfl, rfl, rfl, rfl, rfl, rfl, rfl, rfl⟩
  case wrRrVal1Lo d => simp only [exec, execWrRrVal1Lo, writeSlot]; split <;> exact ⟨_, rfl, rfl, rfl, rfl, rfl, rfl, rfl, rfl, rfl⟩
  case wrRrVal1Hi d => simp only [exec, execWrRrVal1Hi, writeSlot]; split <;> exact ⟨_, rfl, rfl, rfl, rfl, rfl, rfl, rfl, rfl, rfl⟩
  all_goals exact ⟨_, rfl, rfl, rfl, rfl, rfl, rfl, rfl, rfl, rfl⟩

/-- What a step that answers a next state has done: from a state with defined FSM encodings, a reset cycle, or, without reset, the end of a
cycle over what the host access of the cycle (or its absence) made of the state. -/
theorem step_cases {s t : State} (h : step s = .next t) :
    wcrStateDefined s.wcrState = true ∧ rrStateDefined s.rrState = true
    ∧ ((s.pins.rst = true ∧ t = resetCycle s)
      ∨ (s.pins.rst = false ∧ ∃ u, t = finishCycle s u
          ∧ ((fetch s = none ∧ u = quiet s) ∨ ∃ i, fetch s = some i ∧ exec i s = .next u))) := by
  unfold step at h
  split at h
  · cases h
  · next hw =>
    split at h
    · cases h
    · next hx =>
      refine ⟨by simpa using hw, by simpa using hx, ?_⟩
      split at h
      · next hr => exact .inl ⟨hr, by simpa using h.symm⟩
      · next hr =>
        refine .inr ⟨by simpa using hr, ?_⟩
        split at h
        · next hf => exact ⟨quiet s, by simpa using h.symm, .inl ⟨hf, rfl⟩⟩
        · next i hf =>
          obtain ⟨u, hu, _⟩ := exec_next i s
          rw [hu] at h
          exact ⟨u, by simpa using h.symm, .inr ⟨i, hf, hu⟩⟩

/-- A state with an undefined WCR_STATE has no successor, `rst` high or low (R21). -/
theorem step_wcr_undefined {s : State} (h : wcrStateDefined s.wcrState = false) : step s = .refused .wcrStateUndefined := by
  simp [step, h]

/-- A state with an undefined RR_STATE has no successor, `rst` high or low (R28). -/
theorem step_rr_undefined {s : State} (hw : wcrStateDefined s.wcrState = true) (h : rrStateDefined s.rrState = false) :
    step s = .refused .rrStateUndefined := by
  simp [step, hw, h]

end Sys2Proof.Machine
end

