-- ==== Sys2Proof/Laws/Exec.lean ====
section
/-!
SUPPORT. What the meaning of an instruction can do, said once: it issues a command, answers without touching a register, or writes a value
slot (`exec_cases`); and what an issued command can do (`issue_cases`). From these: what any instruction does to the WCR's registers
(`exec_wcr`) and to the RR's (`exec_rr`).
-/

namespace Sys2Proof.Machine

/-- The WCR's registers are the same in both states. -/
structure WcrSame (s u : State) : Prop where
  wcrState : u.wcrState = s.wcrState
  wcrKind : u.wcrKind = s.wcrKind
  wcrH1 : u.wcrH1 = s.wcrH1
  wcrL1 : u.wcrL1 = s.wcrL1
  wcrH2 : u.wcrH2 = s.wcrH2
  wcrL2 : u.wcrL2 = s.wcrL2
  wcrRes : u.wcrRes = s.wcrRes
  wcrValid : u.wcrValid = s.wcrValid
  wcrWrap : u.wcrWrap = s.wcrWrap

/-- The RR's registers but for the value slots are the same in both states, and the second drives no device write. -/
structure RrSame (s u : State) : Prop where
  rrState : u.rrState = s.rrState
  rrFrame : u.rrFrame = s.rrFrame
  rrVidx : u.rrVidx = s.rrVidx
  rrLast : u.rrLast = s.rrLast
  rrLoop : u.rrLoop = s.rrLoop
  rrTimer : u.rrTimer = s.rrTimer
  out : u.out = s.out
  outWe : u.outputs.outWe = false

/-- The instruction presents this command: as the command's own row, or as the write of its word to CMD. -/
def presents (i : Instr) (c : Cmd) : Prop := i = instrOfCmd c ∨ ∃ w, i = .wrCmd w ∧ decodeCommand w = c

/-- The state an accepted WCR_SAMPLE makes. -/
def sampleStarted (k : Kind) (s : State) : State :=
  { respondWrite s with
    wcrKind := k
    wcrH1 := 0#32
    wcrL1 := 0#32
    wcrH2 := 0#32
    wcrL2 := 0#32
    wcrValid := false
    wcrWrap := false
    wcrState := .rdH1 }

/-- The state an RR command makes when the RR is idle. -/
def rrAccepted (c : Cmd) (s : State) : State :=
  match c with
  | .rrIdle => devWrite (idlePattern s.params) (respondWrite s)
  | .rrShow slot => enterFrame s slot 7#3 { respondWrite s with rrVidx := slot, rrLast := slot, rrLoop := false }
  | .rrSeq cnt loop => enterFrame s 0#1 7#3 { respondWrite s with rrVidx := 0#1, rrLast := cnt, rrLoop := loop }
  | .rrDone =>
    { devWrite (donePattern s.params) (respondWrite s) with
      rrTimer := hold s s.params.doneDelayMs
      rrState := .doneWait }
  | _ => s

/-- What an issued command makes of the state: at most the sticky flags, or an accepted sample, or an accepted RR command. -/
theorem issue_cases {c : Cmd} {s u : State} (h : issue c s = .next u) :
    (∃ eb ei, u = { respondWrite s with errBusy := eb, errIllegal := ei }
      ∧ ((isRrCommand c = true → s.rrState ≠ .idle ∧ eb = true ∧ ei = s.errIllegal)
        ∧ (∀ k, c = .wcrSample k → s.wcrState ≠ .idle ∧ eb = true ∧ ei = s.errIllegal)))
    ∨ (∃ k, c = .wcrSample k ∧ s.wcrState = .idle ∧ u = sampleStarted k s)
    ∨ (isRrCommand c = true ∧ s.rrState = .idle ∧ u = rrAccepted c s) := by
  cases c <;> simp only [issue, execNop, execWcrSample, execRrIdle, execRrShow, execRrSeq, execRrDone, execClrStatus,
    execIllegal] at h
  case nop => cases h; exact .inl ⟨s.errBusy, s.errIllegal, rfl, by simp [isRrCommand]⟩
  case clrStatus => cases h; exact .inl ⟨false, false, rfl, by simp [isRrCommand]⟩
  case illegal w => cases h; exact .inl ⟨s.errBusy, true, rfl, by simp [isRrCommand]⟩
  case wcrSample k =>
    split at h
    · next hi => cases h; exact .inr (.inl ⟨k, rfl, hi, rfl⟩)
    · next hi => cases h; exact .inl ⟨true, s.errIllegal, rfl, by simp [isRrCommand], fun _ _ => ⟨hi, rfl, rfl⟩⟩
  all_goals
    split at h
    · next hi => cases h; exact .inr (.inr ⟨rfl, hi, rfl⟩)
    · next hi => cases h; exact .inl ⟨true, s.errIllegal, rfl, fun _ => ⟨hi, rfl, rfl⟩, by simp⟩

/-- What an instruction makes of the state: the effect of the command it presents, or a response alone, or a dropped or an accepted write of
a value slot. -/
theorem exec_cases {i : Instr} {s u : State} (h : exec i s = .next u) :
    (∃ c, presents i c ∧ issue c s = .next u)
    ∨ (∃ o : Outputs, o.cnt = none ∧ o.outWe = false ∧ u = { s with outputs := o })
    ∨ (isSlotWrite i = true ∧ s.rrState ≠ .idle ∧ u = setErrBusy (respondWrite s))
    ∨ (isSlotWrite i = true ∧ s.rrState = .idle ∧ ∃ v0 v1, u = { respondWrite s with rrVal0 := v0, rrVal1 := v1 }) := by
  have slot : ∀ f : State → State, (∀ t, ∃ v0 v1, f t = { t with rrVal0 := v0, rrVal1 := v1 }) → writeSlot f s = .next u →
      (s.rrState ≠ .idle ∧ u = setErrBusy (respondWrite s))
      ∨ (s.rrState = .idle ∧ ∃ v0 v1, u = { respondWrite s with rrVal0 := v0, rrVal1 := v1 }) := by
    intro f hf hw
    unfold writeSlot at hw
    split at hw
    · next hi =>
      obtain ⟨v0, v1, he⟩ := hf (respondWrite s)
      exact .inr ⟨hi, v0, v1, by cases hw; exact he⟩
    · next hi => exact .inl ⟨hi, by cases hw; rfl⟩
  cases i
  case wrCmd w => exact .inl ⟨_, .inr ⟨w, rfl, rfl⟩, h⟩
  case nop => exact .inl ⟨.nop, .inl rfl, h⟩
  case wcrSample k => exact .inl ⟨.wcrSample k, .inl rfl, h⟩
  case rrIdle => exact .inl ⟨.rrIdle, .inl rfl, h⟩
  case rrShow x => exact .inl ⟨.rrShow x, .inl rfl, h⟩
  case rrSeq c l => exact .inl ⟨.rrSeq c l, .inl rfl, h⟩
  case rrDone => exact .inl ⟨.rrDone, .inl rfl, h⟩
  case clrStatus => exact .inl ⟨.clrStatus, .inl rfl, h⟩
  case illegal w => exact .inl ⟨.illegal w, .inl rfl, h⟩
  case wrRrVal0Lo d =>
    exact .inr (.inr ((slot _ (fun t => ⟨_, t.rrVal1, rfl⟩) h).imp (fun x => ⟨rfl, x⟩) (fun x => ⟨rfl, x⟩)))
  case wrRrVal0Hi d =>
    exact .inr (.inr ((slot _ (fun t => ⟨_, t.rrVal1, rfl⟩) h).imp (fun x => ⟨rfl, x⟩) (fun x => ⟨rfl, x⟩)))
  case wrRrVal1Lo d =>
    exact .inr (.inr ((slot _ (fun t => ⟨t.rrVal0, _, rfl⟩) h).imp (fun x => ⟨rfl, x⟩) (fun x => ⟨rfl, x⟩)))
  case wrRrVal1Hi d =>
    exact .inr (.inr ((slot _ (fun t => ⟨t.rrVal0, _, rfl⟩) h).imp (fun x => ⟨rfl, x⟩) (fun x => ⟨rfl, x⟩)))
  all_goals exact .inr (.inl ⟨u.outputs, by cases h; rfl, by cases h; rfl, by cases h; rfl⟩)

/-- What an instruction does to the WCR's registers: nothing, or it starts a sample on an idle WCR (R177). -/
theorem exec_wcr {i : Instr} {s u : State} (h : exec i s = .next u) :
    WcrSame s u ∨ (s.wcrState = .idle ∧ ∃ k, presents i (.wcrSample k) ∧ u = sampleStarted k s) := by
  rcases exec_cases h with ⟨c, hp, hc⟩ | ⟨o, _, _, rfl⟩ | ⟨_, _, rfl⟩ | ⟨_, _, v0, v1, rfl⟩
  · rcases issue_cases hc with ⟨eb, ei, rfl, _⟩ | ⟨k, rfl, hi, rfl⟩ | ⟨hr, _, rfl⟩
    · exact .inl ⟨rfl, rfl, rfl, rfl, rfl, rfl, rfl, rfl, rfl⟩
    · exact .inr ⟨hi, k, hp, rfl⟩
    · cases c <;> exact .inl ⟨rfl, rfl, rfl, rfl, rfl, rfl, rfl, rfl, rfl⟩
  all_goals exact .inl ⟨rfl, rfl, rfl, rfl, rfl, rfl, rfl, rfl, rfl⟩

/-- What an instruction does to the RR's registers: nothing but a write of a value slot of an idle RR, or it is a command that an idle RR
accepts (R177). -/
theorem exec_rr {i : Instr} {s u : State} (h : exec i s = .next u) :
    (RrSame s u ∧ (s.rrState = .idle ∨ (u.rrVal0 = s.rrVal0 ∧ u.rrVal1 = s.rrVal1)))
    ∨ (s.rrState = .idle ∧ ∃ c, isRrCommand c = true ∧ presents i c ∧ u = rrAccepted c s) := by
  rcases exec_cases h with ⟨c, hp, hc⟩ | ⟨o, _, ho, rfl⟩ | ⟨_, _, rfl⟩ | ⟨_, hi, v0, v1, rfl⟩
  · rcases issue_cases hc with ⟨eb, ei, rfl, _⟩ | ⟨k, rfl, hi, rfl⟩ | ⟨hr, hi, rfl⟩
    · exact .inl ⟨⟨rfl, rfl, rfl, rfl, rfl, rfl, rfl, rfl⟩, .inr ⟨rfl, rfl⟩⟩
    · exact .inl ⟨⟨rfl, rfl, rfl, rfl, rfl, rfl, rfl, rfl⟩, .inr ⟨rfl, rfl⟩⟩
    · exact .inr ⟨hi, c, hr, hp, rfl⟩
  · exact .inl ⟨⟨rfl, rfl, rfl, rfl, rfl, rfl, rfl, ho⟩, .inr ⟨rfl, rfl⟩⟩
  · exact .inl ⟨⟨rfl, rfl, rfl, rfl, rfl, rfl, rfl, rfl⟩, .inr ⟨rfl, rfl⟩⟩
  · exact .inl ⟨⟨rfl, rfl, rfl, rfl, rfl, rfl, rfl, rfl⟩, .inl hi⟩

/-- What stands on the WCR's side after the host access of a cycle, when the WCR is sampling: the access changes none of its registers. -/
theorem access_wcr_busy {s u : State} (hb : s.wcrState ≠ .idle)
    (h : (fetch s = none ∧ u = quiet s) ∨ ∃ i, fetch s = some i ∧ exec i s = .next u) : WcrSame s u := by
  rcases h with ⟨_, rfl⟩ | ⟨i, _, hx⟩
  · exact ⟨rfl, rfl, rfl, rfl, rfl, rfl, rfl, rfl, rfl⟩
  · rcases exec_wcr hx with hw | ⟨hi, _⟩
    · exact hw
    · exact absurd hi hb

/-- What stands on the RR's side after the host access of a cycle, when the RR is not idle: the access changes none of its registers. -/
theorem access_rr_busy {s u : State} (hb : s.rrState ≠ .idle)
    (h : (fetch s = none ∧ u = quiet s) ∨ ∃ i, fetch s = some i ∧ exec i s = .next u) :
    RrSame s u ∧ u.rrVal0 = s.rrVal0 ∧ u.rrVal1 = s.rrVal1 := by
  rcases h with ⟨_, rfl⟩ | ⟨i, _, hx⟩
  · exact ⟨⟨rfl, rfl, rfl, rfl, rfl, rfl, rfl, rfl⟩, rfl, rfl⟩
  · rcases exec_rr hx with ⟨hr, hi | hv⟩ | ⟨hi, _⟩
    · exact absurd hi hb
    · exact ⟨hr, hv⟩
    · exact absurd hi hb

/-- What the host access of a cycle never touches: the parameters, the trace and the counter port. -/
theorem access_env {s u : State}
    (h : (fetch s = none ∧ u = quiet s) ∨ ∃ i, fetch s = some i ∧ exec i s = .next u) :
    u.params = s.params ∧ u.trace = s.trace ∧ u.outputs.cnt = none := by
  rcases h with ⟨_, rfl⟩ | ⟨i, _, hx⟩
  · exact ⟨rfl, rfl, rfl⟩
  · obtain ⟨t, ht, hp, _, _, _, _, _, htr, hc⟩ := exec_next i s
    rw [hx] at ht
    cases ht
    exact ⟨hp, htr, hc⟩

/-- In a defined state without reset a step answers a next state, the end of a cycle over what the access made of the state. -/
theorem step_next {s : State} (hr : s.pins.rst = false) (hd : fsmDefined s = true) :
    ∃ u, step s = .next (finishCycle s u)
      ∧ ((fetch s = none ∧ u = quiet s) ∨ ∃ i, fetch s = some i ∧ exec i s = .next u) := by
  unfold fsmDefined at hd
  simp only [Bool.and_eq_true] at hd
  cases hf : fetch s with
  | none => exact ⟨quiet s, by simp [step, hr, hd.1, hd.2, hf], .inl ⟨rfl, rfl⟩⟩
  | some i =>
    obtain ⟨u, hu, _⟩ := exec_next i s
    exact ⟨u, by simp [step, hr, hd.1, hd.2, hf, hu], .inr ⟨i, rfl, hu⟩⟩

end Sys2Proof.Machine
end

