-- ==== Sys2Proof/Laws/PerInstr.lean ====
section
/-!
SUPPORT. Statements made once per instruction. EncodeMatchesRow: the encoded form of a well-formed instruction agrees with the match/mask of
its own row of the opcode table (R68, R65); a word of ILLEGAL agrees with none.
-/

namespace Sys2Proof

/-- Some row of the table with this mnemonic accepts the word. -/
def Laws.rowAccepts (table : List Row) (mnemonic : String) (w : Nat) : Bool :=
  table.any fun r => r.mnemonic == mnemonic && r.accepts w

/-- The encoded form of a well-formed instruction lies in its row. -/
def Laws.EncodeMatchesRow.Statement (i : Instr) : Prop :=
  wellFormed i = true →
    match encode i with
    | .cmd w => Laws.rowAccepts commandRows (mnemonicOf i) w.toNat = true ∨ illegalWord w = true
    | .bus desc _ => Laws.rowAccepts busRows (mnemonicOf i) desc.toNat = true

theorem Laws.EncodeMatchesRow.nop : Laws.EncodeMatchesRow.Statement .nop :=
  fun _ => .inl (by decide)

theorem Laws.EncodeMatchesRow.wcrSample (k : Kind) : Laws.EncodeMatchesRow.Statement (.wcrSample k) :=
  by cases k <;> exact fun _ => .inl (by decide)

theorem Laws.EncodeMatchesRow.rrIdle : Laws.EncodeMatchesRow.Statement .rrIdle :=
  fun _ => .inl (by decide)

theorem Laws.EncodeMatchesRow.rrShow (x : BitVec 1) : Laws.EncodeMatchesRow.Statement (.rrShow x) :=
  fun _ => .inl (by revert x; decide)

theorem Laws.EncodeMatchesRow.rrSeq (c : BitVec 1) (l : Bool) : Laws.EncodeMatchesRow.Statement (.rrSeq c l) :=
  fun _ => .inl (by revert c l; decide)

theorem Laws.EncodeMatchesRow.rrDone : Laws.EncodeMatchesRow.Statement .rrDone :=
  fun _ => .inl (by decide)

theorem Laws.EncodeMatchesRow.clrStatus : Laws.EncodeMatchesRow.Statement .clrStatus :=
  fun _ => .inl (by decide)

theorem Laws.EncodeMatchesRow.illegal (w : Word) : Laws.EncodeMatchesRow.Statement (.illegal w) :=
  fun h => .inr h

theorem Laws.EncodeMatchesRow.rdCmd : Laws.EncodeMatchesRow.Statement .rdCmd :=
  fun _ => by
    have h : Laws.rowAccepts busRows "RD_CMD" (descriptor false 2#2 (0#4 ++ 0#2)).toNat = true := by decide
    exact h

theorem Laws.EncodeMatchesRow.wrCmd (d : Word) : Laws.EncodeMatchesRow.Statement (.wrCmd d) :=
  fun _ => by
    have h : Laws.rowAccepts busRows "WR_CMD" (descriptor true 2#2 (0#4 ++ 0#2)).toNat = true := by decide
    exact h

theorem Laws.EncodeMatchesRow.rdStatus : Laws.EncodeMatchesRow.Statement .rdStatus :=
  fun _ => by
    have h : Laws.rowAccepts busRows "RD_STATUS" (descriptor false 2#2 (1#4 ++ 0#2)).toNat = true := by decide
    exact h

theorem Laws.EncodeMatchesRow.wrStatus (d : Word) : Laws.EncodeMatchesRow.Statement (.wrStatus d) :=
  fun _ => by
    have h : Laws.rowAccepts busRows "WR_STATUS" (descriptor true 2#2 (1#4 ++ 0#2)).toNat = true := by decide
    exact h

theorem Laws.EncodeMatchesRow.rdWcrResLo : Laws.EncodeMatchesRow.Statement .rdWcrResLo :=
  fun _ => by
    have h : Laws.rowAccepts busRows "RD_WCR_RES_LO" (descriptor false 2#2 (2#4 ++ 0#2)).toNat = true := by decide
    exact h

theorem Laws.EncodeMatchesRow.wrWcrResLo (d : Word) : Laws.EncodeMatchesRow.Statement (.wrWcrResLo d) :=
  fun _ => by
    have h : Laws.rowAccepts busRows "WR_WCR_RES_LO" (descriptor true 2#2 (2#4 ++ 0#2)).toNat = true := by decide
    exact h

theorem Laws.EncodeMatchesRow.rdWcrResHi : Laws.EncodeMatchesRow.Statement .rdWcrResHi :=
  fun _ => by
    have h : Laws.rowAccepts busRows "RD_WCR_RES_HI" (descriptor false 2#2 (3#4 ++ 0#2)).toNat = true := by decide
    exact h

theorem Laws.EncodeMatchesRow.wrWcrResHi (d : Word) : Laws.EncodeMatchesRow.Statement (.wrWcrResHi d) :=
  fun _ => by
    have h : Laws.rowAccepts busRows "WR_WCR_RES_HI" (descriptor true 2#2 (3#4 ++ 0#2)).toNat = true := by decide
    exact h

theorem Laws.EncodeMatchesRow.rdWcrH1 : Laws.EncodeMatchesRow.Statement .rdWcrH1 :=
  fun _ => by
    have h : Laws.rowAccepts busRows "RD_WCR_H1" (descriptor false 2#2 (4#4 ++ 0#2)).toNat = true := by decide
    exact h

theorem Laws.EncodeMatchesRow.wrWcrH1 (d : Word) : Laws.EncodeMatchesRow.Statement (.wrWcrH1 d) :=
  fun _ => by
    have h : Laws.rowAccepts busRows "WR_WCR_H1" (descriptor true 2#2 (4#4 ++ 0#2)).toNat = true := by decide
    exact h

theorem Laws.EncodeMatchesRow.rdWcrL1 : Laws.EncodeMatchesRow.Statement .rdWcrL1 :=
  fun _ => by
    have h : Laws.rowAccepts busRows "RD_WCR_L1" (descriptor false 2#2 (5#4 ++ 0#2)).toNat = true := by decide
    exact h

theorem Laws.EncodeMatchesRow.wrWcrL1 (d : Word) : Laws.EncodeMatchesRow.Statement (.wrWcrL1 d) :=
  fun _ => by
    have h : Laws.rowAccepts busRows "WR_WCR_L1" (descriptor true 2#2 (5#4 ++ 0#2)).toNat = true := by decide
    exact h

theorem Laws.EncodeMatchesRow.rdWcrH2 : Laws.EncodeMatchesRow.Statement .rdWcrH2 :=
  fun _ => by
    have h : Laws.rowAccepts busRows "RD_WCR_H2" (descriptor false 2#2 (6#4 ++ 0#2)).toNat = true := by decide
    exact h

theorem Laws.EncodeMatchesRow.wrWcrH2 (d : Word) : Laws.EncodeMatchesRow.Statement (.wrWcrH2 d) :=
  fun _ => by
    have h : Laws.rowAccepts busRows "WR_WCR_H2" (descriptor true 2#2 (6#4 ++ 0#2)).toNat = true := by decide
    exact h

theorem Laws.EncodeMatchesRow.rdWcrL2 : Laws.EncodeMatchesRow.Statement .rdWcrL2 :=
  fun _ => by
    have h : Laws.rowAccepts busRows "RD_WCR_L2" (descriptor false 2#2 (7#4 ++ 0#2)).toNat = true := by decide
    exact h

theorem Laws.EncodeMatchesRow.wrWcrL2 (d : Word) : Laws.EncodeMatchesRow.Statement (.wrWcrL2 d) :=
  fun _ => by
    have h : Laws.rowAccepts busRows "WR_WCR_L2" (descriptor true 2#2 (7#4 ++ 0#2)).toNat = true := by decide
    exact h

theorem Laws.EncodeMatchesRow.rdRrVal0Lo : Laws.EncodeMatchesRow.Statement .rdRrVal0Lo :=
  fun _ => by
    have h : Laws.rowAccepts busRows "RD_RR_VAL0_LO" (descriptor false 2#2 (8#4 ++ 0#2)).toNat = true := by decide
    exact h

theorem Laws.EncodeMatchesRow.wrRrVal0Lo (d : Word) : Laws.EncodeMatchesRow.Statement (.wrRrVal0Lo d) :=
  fun _ => by
    have h : Laws.rowAccepts busRows "WR_RR_VAL0_LO" (descriptor true 2#2 (8#4 ++ 0#2)).toNat = true := by decide
    exact h

theorem Laws.EncodeMatchesRow.rdRrVal0Hi : Laws.EncodeMatchesRow.Statement .rdRrVal0Hi :=
  fun _ => by
    have h : Laws.rowAccepts busRows "RD_RR_VAL0_HI" (descriptor false 2#2 (9#4 ++ 0#2)).toNat = true := by decide
    exact h

theorem Laws.EncodeMatchesRow.wrRrVal0Hi (d : Word) : Laws.EncodeMatchesRow.Statement (.wrRrVal0Hi d) :=
  fun _ => by
    have h : Laws.rowAccepts busRows "WR_RR_VAL0_HI" (descriptor true 2#2 (9#4 ++ 0#2)).toNat = true := by decide
    exact h

theorem Laws.EncodeMatchesRow.rdRrVal1Lo : Laws.EncodeMatchesRow.Statement .rdRrVal1Lo :=
  fun _ => by
    have h : Laws.rowAccepts busRows "RD_RR_VAL1_LO" (descriptor false 2#2 (10#4 ++ 0#2)).toNat = true := by decide
    exact h

theorem Laws.EncodeMatchesRow.wrRrVal1Lo (d : Word) : Laws.EncodeMatchesRow.Statement (.wrRrVal1Lo d) :=
  fun _ => by
    have h : Laws.rowAccepts busRows "WR_RR_VAL1_LO" (descriptor true 2#2 (10#4 ++ 0#2)).toNat = true := by decide
    exact h

theorem Laws.EncodeMatchesRow.rdRrVal1Hi : Laws.EncodeMatchesRow.Statement .rdRrVal1Hi :=
  fun _ => by
    have h : Laws.rowAccepts busRows "RD_RR_VAL1_HI" (descriptor false 2#2 (11#4 ++ 0#2)).toNat = true := by decide
    exact h

theorem Laws.EncodeMatchesRow.wrRrVal1Hi (d : Word) : Laws.EncodeMatchesRow.Statement (.wrRrVal1Hi d) :=
  fun _ => by
    have h : Laws.rowAccepts busRows "WR_RR_VAL1_HI" (descriptor true 2#2 (11#4 ++ 0#2)).toNat = true := by decide
    exact h

theorem Laws.EncodeMatchesRow.rdRrOut : Laws.EncodeMatchesRow.Statement .rdRrOut :=
  fun _ => by
    have h : Laws.rowAccepts busRows "RD_RR_OUT" (descriptor false 2#2 (12#4 ++ 0#2)).toNat = true := by decide
    exact h

theorem Laws.EncodeMatchesRow.wrRrOut (d : Word) : Laws.EncodeMatchesRow.Statement (.wrRrOut d) :=
  fun _ => by
    have h : Laws.rowAccepts busRows "WR_RR_OUT" (descriptor true 2#2 (12#4 ++ 0#2)).toNat = true := by decide
    exact h

theorem Laws.EncodeMatchesRow.rdClkHz : Laws.EncodeMatchesRow.Statement .rdClkHz :=
  fun _ => by
    have h : Laws.rowAccepts busRows "RD_CLK_HZ" (descriptor false 2#2 (13#4 ++ 0#2)).toNat = true := by decide
    exact h

theorem Laws.EncodeMatchesRow.wrClkHz (d : Word) : Laws.EncodeMatchesRow.Statement (.wrClkHz d) :=
  fun _ => by
    have h : Laws.rowAccepts busRows "WR_CLK_HZ" (descriptor true 2#2 (13#4 ++ 0#2)).toNat = true := by decide
    exact h

theorem Laws.EncodeMatchesRow.rdRrTimer : Laws.EncodeMatchesRow.Statement .rdRrTimer :=
  fun _ => by
    have h : Laws.rowAccepts busRows "RD_RR_TIMER" (descriptor false 2#2 (14#4 ++ 0#2)).toNat = true := by decide
    exact h

theorem Laws.EncodeMatchesRow.wrRrTimer (d : Word) : Laws.EncodeMatchesRow.Statement (.wrRrTimer d) :=
  fun _ => by
    have h : Laws.rowAccepts busRows "WR_RR_TIMER" (descriptor true 2#2 (14#4 ++ 0#2)).toNat = true := by decide
    exact h

theorem Laws.EncodeMatchesRow.rdReserved3c : Laws.EncodeMatchesRow.Statement .rdReserved3c :=
  fun _ => by
    have h : Laws.rowAccepts busRows "RD_RESERVED_3C" (descriptor false 2#2 (15#4 ++ 0#2)).toNat = true := by decide
    exact h

theorem Laws.EncodeMatchesRow.wrReserved3c (d : Word) : Laws.EncodeMatchesRow.Statement (.wrReserved3c d) :=
  fun _ => by
    have h : Laws.rowAccepts busRows "WR_RESERVED_3C" (descriptor true 2#2 (15#4 ++ 0#2)).toNat = true := by decide
    exact h

theorem Laws.EncodeMatchesRow.buserrSize0 (we : Bool) (off : BitVec 6) : Laws.EncodeMatchesRow.Statement (.buserrSize0 we off) :=
  fun _ => by
    have h : ∀ (b : Bool) (o : BitVec 6), Laws.rowAccepts busRows "BUSERR_SIZE0" (descriptor b 0#2 o).toNat = true := by decide
    exact h we off

theorem Laws.EncodeMatchesRow.buserrSize1 (we : Bool) (off : BitVec 6) : Laws.EncodeMatchesRow.Statement (.buserrSize1 we off) :=
  fun _ => by
    have h : ∀ (b : Bool) (o : BitVec 6), Laws.rowAccepts busRows "BUSERR_SIZE1" (descriptor b 1#2 o).toNat = true := by decide
    exact h we off

theorem Laws.EncodeMatchesRow.buserrSize3 (we : Bool) (off : BitVec 6) : Laws.EncodeMatchesRow.Statement (.buserrSize3 we off) :=
  fun _ => by
    have h : ∀ (b : Bool) (o : BitVec 6), Laws.rowAccepts busRows "BUSERR_SIZE3" (descriptor b 3#2 o).toNat = true := by decide
    exact h we off

theorem Laws.EncodeMatchesRow.buserrMisaligned1 (we : Bool) (word : BitVec 4) : Laws.EncodeMatchesRow.Statement (.buserrMisaligned1 we word) :=
  fun _ => by
    have h : ∀ (b : Bool) (o : BitVec 4), Laws.rowAccepts busRows "BUSERR_MISALIGNED_1" (descriptor b 2#2 (o ++ 1#2)).toNat = true := by decide
    exact h we word

theorem Laws.EncodeMatchesRow.buserrMisaligned2 (we : Bool) (word : BitVec 4) : Laws.EncodeMatchesRow.Statement (.buserrMisaligned2 we word) :=
  fun _ => by
    have h : ∀ (b : Bool) (o : BitVec 4), Laws.rowAccepts busRows "BUSERR_MISALIGNED_2" (descriptor b 2#2 (o ++ 2#2)).toNat = true := by decide
    exact h we word

theorem Laws.EncodeMatchesRow.buserrMisaligned3 (we : Bool) (word : BitVec 4) : Laws.EncodeMatchesRow.Statement (.buserrMisaligned3 we word) :=
  fun _ => by
    have h : ∀ (b : Bool) (o : BitVec 4), Laws.rowAccepts busRows "BUSERR_MISALIGNED_3" (descriptor b 2#2 (o ++ 3#2)).toNat = true := by decide
    exact h we word

end Sys2Proof
end

