-- ==== Sys2Proof/Laws/Trace.lean ====
section
/-!
SUPPORT. The views of the trace (bus accesses, counter reads, device writes) over a concatenation and over the events of one cycle. What a
cycle adds to the trace is `finishCycle_trace` of Laws/Units.lean; these say what that is in each view.
-/

namespace Sys2Proof.Machine

@[simp] theorem devWrites_append (xs ys : List Event) : devWrites (xs ++ ys) = devWrites xs ++ devWrites ys := by
  induction xs with
  | nil => rfl
  | cons e xs ih => cases e <;> simp [devWrites, ih]

@[simp] theorem counterReads_append (xs ys : List Event) : counterReads (xs ++ ys) = counterReads xs ++ counterReads ys := by
  induction xs with
  | nil => rfl
  | cons e xs ih => cases e <;> simp [counterReads, ih]

@[simp] theorem busAccesses_append (xs ys : List Event) : busAccesses (xs ++ ys) = busAccesses xs ++ busAccesses ys := by
  induction xs with
  | nil => rfl
  | cons e xs ih => cases e <;> simp [busAccesses, ih]

/-- The device write a cycle adds: that of its pulse on `out_we`. -/
@[simp] theorem devWrites_cycleEvents (n : Nat) (bus : Option Access) (o : Outputs) (v : Byte) :
    devWrites (cycleEvents n bus o v) = if o.outWe then [(n, v)] else [] := by
  cases bus <;> cases hc : o.cnt <;> cases hw : o.outWe <;> simp [cycleEvents, devWrites, hc, hw]

/-- The counter read a cycle adds: that of its counter port. -/
@[simp] theorem counterReads_cycleEvents (n : Nat) (bus : Option Access) (o : Outputs) (v : Byte) :
    counterReads (cycleEvents n bus o v) = (o.cnt.map (fun r => (n, r.kind, r.half, r.data))).toList := by
  cases bus <;> cases hc : o.cnt <;> cases hw : o.outWe <;> simp [cycleEvents, counterReads, hc, hw]

/-- The bus access a cycle adds: that of its bus, with the response. -/
@[simp] theorem busAccesses_cycleEvents (n : Nat) (bus : Option Access) (o : Outputs) (v : Byte) :
    busAccesses (cycleEvents n bus o v) = (bus.map (fun a => (n, a, o.busRdata, o.busErr))).toList := by
  cases bus <;> cases hc : o.cnt <;> cases hw : o.outWe <;> simp [cycleEvents, busAccesses, hc, hw]

end Sys2Proof.Machine
end

