-- ==== Sys2Proof/Machine/HostProgram.lean ====
section
/-!
DEFINITION. The host agent as host programs describe it (R76 to R80, R207): register names, command mnemonics, host statements, the
pseudo-instructions and their expansions, and one cycle of a host driving the block. The host's own state stands beside the block's
`State`, never in it: "a host program's end state is the block's state together with the host variables" (R78).
-/

namespace Sys2Proof.Machine

/-- The register names of host programs (R80); the reserved word is written `@0x3C`. -/
inductive RegName where
  | cmd | status | wcrResLo | wcrResHi | wcrH1 | wcrL1 | wcrH2 | wcrL2
  | rrVal0Lo | rrVal0Hi | rrVal1Lo | rrVal1Hi | rrOut | clkHz | rrTimer | reserved3c
deriving DecidableEq, Repr

/-- The offset of a register in the window (R39). -/
def regOffset : RegName → BitVec 6
  | .cmd => 0x00#6
  | .status => 0x04#6
  | .wcrResLo => 0x08#6
  | .wcrResHi => 0x0C#6
  | .wcrH1 => 0x10#6
  | .wcrL1 => 0x14#6
  | .wcrH2 => 0x18#6
  | .wcrL2 => 0x1C#6
  | .rrVal0Lo => 0x20#6
  | .rrVal0Hi => 0x24#6
  | .rrVal1Lo => 0x28#6
  | .rrVal1Hi => 0x2C#6
  | .rrOut => 0x30#6
  | .clkHz => 0x34#6
  | .rrTimer => 0x38#6
  | .reserved3c => 0x3C#6

/-- The spelling of a register in a host program (R80). -/
def regText : RegName → String
  | .cmd => "CMD"
  | .status => "STATUS"
  | .wcrResLo => "WCR_RES_LO"
  | .wcrResHi => "WCR_RES_HI"
  | .wcrH1 => "WCR_H1"
  | .wcrL1 => "WCR_L1"
  | .wcrH2 => "WCR_H2"
  | .wcrL2 => "WCR_L2"
  | .rrVal0Lo => "RR_VAL0_LO"
  | .rrVal0Hi => "RR_VAL0_HI"
  | .rrVal1Lo => "RR_VAL1_LO"
  | .rrVal1Hi => "RR_VAL1_HI"
  | .rrOut => "RR_OUT"
  | .clkHz => "CLK_HZ"
  | .rrTimer => "RR_TIMER"
  | .reserved3c => "@0x3C"

/-- The command mnemonics of R76 with their words. -/
def commandTexts : List (String × Word) :=
  [("nop", 0x00000000#32),
   ("wcr.sample cycle", 0x00000001#32),
   ("wcr.sample instret", 0x00000101#32),
   ("rr.idle", 0x00000002#32),
   ("rr.show 0", 0x00000003#32),
   ("rr.show 1", 0x00000103#32),
   ("rr.seq 1", 0x00000004#32),
   ("rr.seq 2", 0x00000104#32),
   ("rr.seq 1, loop", 0x00000204#32),
   ("rr.seq 2, loop", 0x00000304#32),
   ("rr.done", 0x00000005#32),
   ("clr.status", 0x00000006#32)]

/-- The STATUS masks of R75. -/
def statusMasks : List (String × Word) :=
  [("WCR_BUSY", 0x00000001#32), ("WCR_VALID", 0x00000002#32), ("WCR_WRAP", 0x00000004#32),
   ("WCR_KIND", 0x00000008#32), ("WCR_STATE", 0x00000070#32), ("RR_BUSY", 0x00000100#32),
   ("RR_STATE", 0x00000E00#32), ("RR_FRAME", 0x00007000#32), ("RR_VIDX", 0x00008000#32),
   ("RR_LOOP", 0x00010000#32), ("ACTIVE_LOW", 0x00020000#32), ("ERR_BUSY", 0x00040000#32),
   ("ERR_ILLEGAL", 0x00080000#32), ("RR_LAST", 0x00100000#32)]

/-- Host expressions on u64 values (R78): the operators of R7 and the bit fields of R6. -/
inductive HostExpr where
  | lit (v : Wide)
  | var (x : String)
  | add (a b : HostExpr)
  | sub (a b : HostExpr)
  | mul (a b : HostExpr)
  | div (a b : HostExpr)
  | shl (a b : HostExpr)
  | shr (a b : HostExpr)
  | and (a b : HostExpr)
  | or (a b : HostExpr)
  | xor (a b : HostExpr)
  | not (a : HostExpr)
  | eq (a b : HostExpr)
  | ne (a b : HostExpr)
  /-- `a[hi:lo]` (R6), zero-extended; 0 where `hi` < `lo`, and bits past the operand's width are 0, the model's choice (log 23) -/
  | field (a : HostExpr) (hi lo : Nat)
deriving DecidableEq, Repr

/-- The host's variables, each bound at most once, the latest first. -/
abbrev HostVars := List (String × Wide)

/-- Binds a host variable, in place of its earlier value. -/
def bindVar (x : String) (v : Wide) (vars : HostVars) : HostVars := (x, v) :: vars.filter (fun p => p.1 != x)

/-- The u64 of a number: its low 64 bits (R7). -/
def u64 (n : Nat) : Wide := BitVec.ofNat 64 n

/-- The number of a truth value (log 23). -/
def truthValue (b : Bool) : Nat := if b then 1 else 0

/-- The number a host expression stands for (R7). A product is exact, and a quotient, a right shift, a field or a comparison is taken of the
exact numbers; the other operators are at 64 bits and wrap (log 23). A field `a[hi:lo]` with `hi` < `lo` is 0, and the bits of a field past the
operand's width are 0 (R6 gives such a field no meaning: the model's choice, log 23). A variable never bound is 0 (log 18). -/
def exactValue (vars : HostVars) : HostExpr → Nat
  | .lit v => v.toNat
  | .var x => ((vars.lookup x).getD 0#64).toNat
  | .add a b => (u64 (exactValue vars a) + u64 (exactValue vars b)).toNat
  | .sub a b => (u64 (exactValue vars a) - u64 (exactValue vars b)).toNat
  | .mul a b => exactValue vars a * exactValue vars b
  | .div a b =>
    if exactValue vars b = 0 then (Config.hostDivisionByZero (exactValue vars a)).toNat
    else exactValue vars a / exactValue vars b
  | .shl a b => if exactValue vars b < 64 then (u64 (exactValue vars a) <<< exactValue vars b).toNat else 0
  | .shr a b => exactValue vars a >>> exactValue vars b
  | .and a b => (u64 (exactValue vars a) &&& u64 (exactValue vars b)).toNat
  | .or a b => (u64 (exactValue vars a) ||| u64 (exactValue vars b)).toNat
  | .xor a b => (u64 (exactValue vars a) ^^^ u64 (exactValue vars b)).toNat
  | .not a => (~~~ u64 (exactValue vars a)).toNat
  | .eq a b => truthValue (exactValue vars a == exactValue vars b)
  | .ne a b => truthValue (exactValue vars a != exactValue vars b)
  | .field a hi lo => (exactValue vars a >>> lo) % 2 ^ (hi + 1 - lo)

/-- The u64 value of a host expression (R78): `let v = expr` binds it. -/
def evalExpr (vars : HostVars) (e : HostExpr) : Wide := u64 (exactValue vars e)

/-- The statements of a host program (R77, R78). `size` is 2 in a defined access and 0, 1 or 3 in the narrow forms; `err` is the
trailing `!err`. The mask and value of a `poll` are 32-bit constants and the count of an `idle` is a constant, the model's choice (log 24). -/
inductive HostStmt where
  | rd (size : BitVec 2) (off : BitVec 6) (x : String) (err : Bool)
  | wr (size : BitVec 2) (off : BitVec 6) (e : HostExpr) (err : Bool)
  | letVar (x : String) (e : HostExpr)
  | poll (off : BitVec 6) (mask val : Word)
  | label (l : String)
  | goto (l : String)
  | idle (cycles : Nat)
deriving DecidableEq, Repr

/-- `rd NAME -> x` (R77). -/
def rdStmt (r : RegName) (x : String) : HostStmt := .rd 2#2 (regOffset r) x false

/-- `wr NAME, e` (R77). -/
def wrStmt (r : RegName) (e : HostExpr) : HostStmt := .wr 2#2 (regOffset r) e false

/-- A command mnemonic stands for `wr CMD, <word>` (R76). -/
def cmdStmt (c : Cmd) : HostStmt := wrStmt .cmd (.lit ((encodeCommand c).setWidth 64))

/-- The pseudo-instructions (R79). -/
inductive Pseudo where
  | readWide (k : Kind) (x : String)
  | load (slot : BitVec 1) (e : HostExpr)
  | waitIdle
  | waitHalted
  | start
  | showValue (e : HostExpr)
deriving DecidableEq, Repr

/-- `rr.load slot, x`: the two words of a value slot, low first (R79). -/
def loadStmts (slot : BitVec 1) (e : HostExpr) : List HostStmt :=
  if slot = 0#1 then [wrStmt .rrVal0Lo (.field e 31 0), wrStmt .rrVal0Hi (.field e 63 32)]
  else [wrStmt .rrVal1Lo (.field e 31 0), wrStmt .rrVal1Hi (.field e 63 32)]

/-- `rr.wait_idle`: poll STATUS until RR_STATE reads 0 (R79). -/
def waitIdleStmt : HostStmt := .poll (regOffset .status) 0xE00#32 0x000#32

/-- The expansions of R79. -/
def expand : Pseudo → List HostStmt
  | .readWide k x =>
    [cmdStmt (.wcrSample k), .poll (regOffset .status) 0x2#32 0x2#32, rdStmt .wcrResLo "lo",
      rdStmt .wcrResHi "hi", .letVar x (.or (.shl (.var "hi") (.lit 32#64)) (.var "lo"))]
  | .load slot e => loadStmts slot e
  | .waitIdle => [waitIdleStmt]
  | .waitHalted => [.poll (regOffset .status) 0xE00#32 0xA00#32]
  | .start => [cmdStmt .rrIdle]
  | .showValue e => [waitIdleStmt] ++ loadStmts 0#1 e ++ [cmdStmt (.rrShow 0#1)]

/-- The state of a host: its program, the statement it stands at, its variables, how many cycles of an `idle` have passed, and whether
every access so far ended as its `!err` mark expects. -/
structure HostState where
  program : List HostStmt
  at_ : Nat
  vars : HostVars
  waited : Nat
  asExpected : Bool
deriving DecidableEq, Repr

/-- The place a `goto` reaches: the first place of its label in the program, and the program's end where it lacks the label, the model's choice
(log 18). -/
def labelAt (program : List HostStmt) (l : String) : Nat := program.idxOf (.label l)

/-- Runs the statements that take no cycle, `let`, labels and `goto`, until one that takes a cycle or the end. `fuel` bounds a circle of
`goto`s without an access. -/
def settle : Nat → HostState → HostState
  | 0, h => h
  | fuel + 1, h =>
    match h.program[h.at_]? with
    | some (.letVar x e) => settle fuel { h with at_ := h.at_ + 1, vars := bindVar x (evalExpr h.vars e) h.vars }
    | some (.label _) => settle fuel { h with at_ := h.at_ + 1 }
    | some (.goto l) => settle fuel { h with at_ := labelAt h.program l }
    | some (.idle 0) => settle fuel { h with at_ := h.at_ + 1 }
    | _ => h

/-- The access a settled host presents in this cycle, if any: at most one (R17). A `wr` sends the low 32 bits of its expression, the model's
choice where the u64 value does not fit the 32 bits of R77 (log 22). -/
def hostAccess (h : HostState) : Option Access :=
  match h.program[h.at_]? with
  | some (.rd size off _ _) => some ⟨false, size, off, 0#32⟩
  | some (.wr size off e _) => some ⟨true, size, off, loWord (evalExpr h.vars e)⟩
  | some (.poll off _ _) => some ⟨false, 2#2, off, 0#32⟩
  | _ => none

/-- The word a read returned. -/
def readWord (o : Outputs) : Word := o.busRdata.getD 0#32

/-- What the host does with the response of its access (R77, R78). A `poll` makes one read a cycle, bound to the variable `t` of its
expansion, until its condition holds; its read is expected to end without an error, having no `!err`. -/
def hostResponse (o : Outputs) (h : HostState) : HostState :=
  match h.program[h.at_]? with
  | some (.rd _ _ x err) =>
    { h with at_ := h.at_ + 1, vars := bindVar x ((readWord o).setWidth 64) h.vars,
             asExpected := h.asExpected && (o.busErr == err) }
  | some (.wr _ _ _ err) => { h with at_ := h.at_ + 1, asExpected := h.asExpected && (o.busErr == err) }
  | some (.poll _ mask val) =>
    { h with at_ := if readWord o &&& mask = val then h.at_ + 1 else h.at_
             vars := bindVar "t" ((readWord o).setWidth 64) h.vars
             asExpected := h.asExpected && !o.busErr }
  | some (.idle n) => if h.waited + 1 < n then { h with waited := h.waited + 1 } else { h with at_ := h.at_ + 1, waited := 0 }
  | _ => h

/-- One cycle of a host and the block: the host presents its access in the cycle, the block steps, the host takes the response (R207). -/
def hostCycle (h : HostState) (s : State) : Host.Outcome (HostState × State) Fault Refusal :=
  let h1 := settle (h.program.length + 1) h
  match step { s with pins := { s.pins with bus := hostAccess h1 } } with
  | .next t => .next (hostResponse t.outputs h1, t)
  | .fault f => .fault f
  | .refused r => .refused r

end Sys2Proof.Machine
end

