-- ==== Sys2Proof/Tests/Slice0.lean ====
section
/-!
SUPPORT. Tests of the model against the spec's own examples (each test names its vector of 95_test_vectors.md or its rule), the smoke tests of
WellFormed, and a witness for the hypotheses of each statement.
-/

namespace Sys2Proof.Tests

open Sys2Proof.Machine

/-! ### WellFormed smoke: a legal word is no ILLEGAL, and each clause (a) to (e) of R69 makes one -/

theorem test_wf_refuses_legal_words_as_illegal :
    (wellFormed (.illegal 0x00000000#32) || wellFormed (.illegal 0x00000101#32) || wellFormed (.illegal 0x00000304#32)
      || wellFormed (.illegal 0x00000006#32)) = false := by decide
theorem test_wf_clause_a : reservedOp 0x00000007#32 = true ∧ reservedOp 0x00000006#32 = false := by decide
theorem test_wf_clause_b : reservedLowBits 0x00000010#32 = true ∧ reservedLowBits 0x00000304#32 = false := by decide
theorem test_wf_clause_c : reservedHighBits 0x00000400#32 = true ∧ reservedHighBits 0x00000304#32 = false := by decide
theorem test_wf_clause_d : strayLoopBit 0x00000201#32 = true ∧ strayLoopBit 0x00000204#32 = false := by decide
theorem test_wf_clause_e : strayOperandBit 0x00000105#32 = true ∧ strayOperandBit 0x00000101#32 = false := by decide
theorem test_wf_accepts_illegal_words :
    (wellFormed (.illegal 0x0000000F#32) && wellFormed (.illegal 0x80000001#32) && wellFormed (.illegal 0x00000206#32)) = true := by
  decide

/-! ### Decoding: words written out bit by bit from R64, R65 and R68 -/

theorem test_decode_nop : decode (.cmd 0b00000000000000000000000000000000#32) = .nop := by decide
theorem test_decode_wcr_sample_cycle : decode (.cmd 0b00000000000000000000000000000001#32) = .wcrSample .cycle := by decide
theorem test_decode_wcr_sample_instret : decode (.cmd 0b00000000000000000000000100000001#32) = .wcrSample .instret := by decide
theorem test_decode_rr_idle : decode (.cmd 0b00000000000000000000000000000010#32) = .rrIdle := by decide
theorem test_decode_rr_show_1 : decode (.cmd 0b00000000000000000000000100000011#32) = .rrShow 1#1 := by decide
theorem test_decode_rr_seq_1_loop : decode (.cmd 0b00000000000000000000001000000100#32) = .rrSeq 0#1 true := by decide
theorem test_decode_rr_seq_2 : decode (.cmd 0b00000000000000000000000100000100#32) = .rrSeq 1#1 false := by decide
theorem test_decode_rr_done : decode (.cmd 0b00000000000000000000000000000101#32) = .rrDone := by decide
theorem test_decode_clr_status : decode (.cmd 0b00000000000000000000000000000110#32) = .clrStatus := by decide
theorem test_decode_illegal_words :
    [0x00000100#32, 0x00000201#32, 0x00000102#32, 0x00000303#32, 0x00000105#32, 0x00000206#32].map (fun w => decode (.cmd w))
      = [.illegal 0x00000100#32, .illegal 0x00000201#32, .illegal 0x00000102#32, .illegal 0x00000303#32, .illegal 0x00000105#32,
        .illegal 0x00000206#32] := by decide
theorem test_decode_illegal_words_reserved_bits :
    [0x00000007#32, 0x0000000F#32, 0x00000010#32, 0x00000400#32, 0x80000001#32].map (fun w => decode (.cmd w))
      = [.illegal 0x00000007#32, .illegal 0x0000000F#32, .illegal 0x00000010#32, .illegal 0x00000400#32, .illegal 0x80000001#32] := by
  decide
theorem test_decode_reads :
    [0x080#9, 0x084#9, 0x088#9, 0x08C#9, 0x090#9, 0x094#9, 0x098#9, 0x09C#9, 0x0A0#9, 0x0A4#9, 0x0A8#9, 0x0AC#9, 0x0B0#9, 0x0B4#9,
        0x0B8#9, 0x0BC#9].map (fun x => decode (.bus x 0#32))
      = [.rdCmd, .rdStatus, .rdWcrResLo, .rdWcrResHi, .rdWcrH1, .rdWcrL1, .rdWcrH2, .rdWcrL2, .rdRrVal0Lo, .rdRrVal0Hi, .rdRrVal1Lo,
        .rdRrVal1Hi, .rdRrOut, .rdClkHz, .rdRrTimer, .rdReserved3c] := by decide
theorem test_decode_writes :
    [0x180#9, 0x184#9, 0x188#9, 0x18C#9, 0x190#9, 0x194#9, 0x198#9, 0x19C#9, 0x1A0#9, 0x1A4#9, 0x1A8#9, 0x1AC#9, 0x1B0#9, 0x1B4#9,
        0x1B8#9, 0x1BC#9].map (fun x => decode (.bus x 5#32))
      = [.wrCmd 5#32, .wrStatus 5#32, .wrWcrResLo 5#32, .wrWcrResHi 5#32, .wrWcrH1 5#32, .wrWcrL1 5#32, .wrWcrH2 5#32, .wrWcrL2 5#32,
        .wrRrVal0Lo 5#32, .wrRrVal0Hi 5#32, .wrRrVal1Lo 5#32, .wrRrVal1Hi 5#32, .wrRrOut 5#32, .wrClkHz 5#32, .wrRrTimer 5#32,
        .wrReserved3c 5#32] := by decide
theorem test_decode_bus_errors :
    [0x100#9, 0x044#9, 0x1C0#9, 0x081#9, 0x086#9, 0x1BF#9].map (fun x => decode (.bus x 0#32))
      = [.buserrSize0 true 0x00#6, .buserrSize1 false 0x04#6, .buserrSize3 true 0x00#6, .buserrMisaligned1 false 0#4,
        .buserrMisaligned2 false 1#4, .buserrMisaligned3 true 15#4] := by decide
theorem test_table_words :
    decodeTableWord 32 0x304 = some (.rrSeq 1#1 true) ∧ decodeTableWord 16 0x1A0 = some (.wrRrVal0Lo 0#32)
      ∧ decodeTableWord 16 0x0B8 = some .rdRrTimer ∧ decodeTableWord 16 0x200 = none ∧ decodeTableWord 40 0 = none := by decide
/-- The mnemonics of R76 stand for the words of their commands. -/
theorem test_command_texts :
    commandTexts.map Prod.snd
      = [.nop, .wcrSample .cycle, .wcrSample .instret, .rrIdle, .rrShow 0#1, .rrShow 1#1, .rrSeq 0#1 false, .rrSeq 1#1 false,
          .rrSeq 0#1 true, .rrSeq 1#1 true, .rrDone, .clrStatus].map encodeCommand := by decide

/-! ### Values: the vectors W, S, T -/

theorem test_wide_sample_W2 : wideSample 0x1#32 0xFFFFFFFF#32 0x2#32 0x1#32 = 0x0000000200000001#64 := by decide
theorem test_wide_sample_W4 : wideSample 0xFFFFFFFF#32 0x0#32 0x0#32 0x2#32 = 0x2#64 := by decide
theorem test_wide_sample_W8 : wideSample 0x5#32 0x100#32 0x5#32 0x0#32 = 0x0000000500000100#64 := by decide
theorem test_delta_W13 : sampleDelta 0xFFFFFFFFFFFFFF00#64 0x100#64 = 0x200#64 := by decide

/-- Parameters of a build for the tests: active-low, calibrated, DONE_DELAY_MS = 300. -/
def params (al : Bool) : Params :=
  { activeLow := al, delayMode := .calibrated, uncalTicksPerMs := 1000#32, doneDelayMs := 300#32, aMax := 1000#64, baseBlock := 4#26 }

theorem test_frames_S1 :
    [7#3, 6#3, 5#3, 4#3, 3#3, 2#3, 1#3, 0#3].map (fun n => phys (params true) (frameByte 0x0123456789ABCDEF#64 n))
      = [0xFE#8, 0xDC#8, 0xBA#8, 0x98#8, 0x76#8, 0x54#8, 0x32#8, 0x10#8] := by decide
theorem test_patterns_E8 :
    idlePattern (params false) = 0x00#8 ∧ donePattern (params false) = 0xFF#8 ∧ idlePattern (params true) = 0xFF#8
      ∧ donePattern (params true) = 0x00#8 := by decide
theorem test_delays_T3_T4_T5_T8 :
    [0#32, 1#32, 3#32, 0xFFFFFFFF#32].map (fun hz => (delayTicks (params true) hz 500#32, holdCycles (params true) hz 800#32))
      = [(0#64, 1#64), (0#64, 1#64), (1#64, 2#64), (2147483647#64, 3435973836#64)] := by decide
theorem test_delay_T9 : delayTicks { params true with delayMode := .uncalibrated } 7#32 500#32 = 500000#64 := by decide
theorem test_delay_T10 : delayTicks (params true) 0xFFFFFFFF#32 0xFFFFFFFF#32 = 18446744065119617#64 := by decide
theorem test_window : windowOffset (params true) 0x00000138#32 = some 0x38#6 ∧ windowOffset (params true) 0x00000140#32 = none := by
  decide

/-! ### Steps -/

/-- A quiet cycle's input with `clk_hz` = 10. -/
def quietPins : Pins := { rst := false, bus := none, clkHz := 10#32, drawCycle := 1#64, drawInstret := 1#64 }

/-- The state after reset of an active-low build, with concrete counters and twelve cycles of inputs. -/
def base : State :=
  { State.reset with
    params := params true
    out := 0xFF#8
    cntCycle := 0x00000001FFFFFFFE#64
    cntInstret := 7#64
    pins := quietPins
    upcoming := List.replicate 12 quietPins
    trace := [.devWrite 0 0xFF#8] }

/-- `s` with an access presented on the bus. -/
def present (a : Access) (s : State) : State := { s with pins := { s.pins with bus := some a } }

/-- `s` with a command word written to CMD. -/
def command (w : Word) (s : State) : State := present ⟨true, 2#2, 0#6, w⟩ s

/-- A fact of the next state of a step. -/
def after (s : State) (p : State → Bool) : Bool :=
  match step s with
  | .next t => p t
  | .fault _ => false
  | .refused _ => false

/-- A display in its frame 3, the timer run out. -/
def showing : State :=
  { base with rrState := .frame, rrFrame := 3#3, rrVal0 := 0x0123456789ABCDEF#64, out := 0x76#8 }

/-- W10: acceptance in cycle c, STATUS reads 0x11 in c+1 (with ACTIVE_LOW, 0x20011). -/
theorem test_wcr_sample_status : after (command 1#32 base) (fun t => statusWord t == 0x00020011#32) = true := by decide
/-- R117: the first high read. -/
theorem test_wcr_high1 :
    after { base with wcrState := .rdH1 } (fun t => t.wcrH1 == 1#32 && t.wcrState == .rdL && t.outputs.cnt == some ⟨.cycle, .high, 1#32⟩)
      = true := by decide
/-- R119, highs differ: WCR_WRAP, and low is re-read. -/
theorem test_wcr_wrap :
    after { base with wcrState := .rdH2, wcrH1 := 0#32 } (fun t => t.wcrWrap && t.wcrState == .rdL2 && !t.wcrValid) = true := by decide
/-- R120, the re-read low with high2 authoritative. -/
theorem test_wcr_reread :
    after { base with wcrState := .rdL2, wcrH2 := 2#32, wcrWrap := true }
      (fun t => t.wcrRes == 0x00000002FFFFFFFE#64 && t.wcrValid && t.wcrWrap && t.wcrState == .idle) = true := by decide
/-- W11: a second WCR_SAMPLE is dropped and the sample goes on. -/
theorem test_wcr_busy :
    after (command 0x101#32 { base with wcrState := .rdL }) (fun t => t.errBusy && t.wcrKind == .cycle && t.wcrState == .rdH2) = true := by
  decide
/-- P2, cycle 3: frame 7 of 0x0123... is 0xFE active-low, the hold loaded is 4. -/
theorem test_rr_show :
    after (command 3#32 { base with rrVal0 := 0x0123456789ABCDEF#64 })
      (fun t => t.out == 0xFE#8 && t.rrTimer == 4#64 && t.trace.getLast? == some (.devWrite 1 0xFE#8)) = true := by decide
/-- R147: the next frame. -/
theorem test_rr_next_frame : after showing (fun t => t.out == 0x54#8 && t.rrFrame == 2#3 && t.outputs.outWe) = true := by decide
/-- R148, R149: a loop's pause ends in the gap with the idle pattern. -/
theorem test_rr_pause_exit :
    after { base with rrState := .pause, rrLoop := true, out := 0x10#8 } (fun t => t.out == 0xFF#8 && t.rrState == .gap && t.rrTimer == 9#64)
      = true := by decide
/-- R150: after slot 0 of two, slot 1. -/
theorem test_rr_gap_exit :
    after { base with rrState := .gap, rrLast := 1#1, rrVal1 := 0xAF00000000000000#64 } (fun t => t.rrVidx == 1#1 && t.out == 0x50#8) = true := by
  decide
/-- O1: DevWrite(0x00) and three cycles in R_DONE_WAIT. -/
theorem test_rr_done : after (command 5#32 base) (fun t => t.out == 0x00#8 && t.rrState == .doneWait && t.rrTimer == 2#64) = true := by decide
/-- O2: in R_HALTED a value write is dropped. -/
theorem test_rr_halted :
    after (present ⟨true, 2#2, 0x20#6, 5#32⟩ { base with rrState := .halted }) (fun t => t.errBusy && t.rrVal0 == 0#64 && t.rrState == .halted)
      = true := by decide
/-- R173: an illegal word while the units are busy sets only ERR_ILLEGAL. -/
theorem test_illegal_word : after (command 0xF#32 showing) (fun t => t.errIllegal && !t.errBusy) = true := by decide
/-- P5, cycle 3: a byte write to CMD issues nothing. -/
theorem test_byte_write :
    after (present ⟨true, 0#2, 0#6, 1#32⟩ base) (fun t => t.outputs.busErr && t.outputs.busRdata == some 0#32 && t.wcrState == .idle) = true := by
  decide
/-- R98: the low word of a slot. -/
theorem test_value_write :
    after (present ⟨true, 2#2, 0x20#6, 0x89ABCDEF#32⟩ { base with rrVal0 := 0x0123456700000000#64 })
      (fun t => t.rrVal0 == 0x0123456789ABCDEF#64) = true := by decide
/-- Reset vectors R1 and R2: in a looping display, reset gives the idle pattern at once. -/
theorem test_reset :
    after { showing with rrLoop := true, pins := { quietPins with rst := true } }
      (fun t => t.out == 0xFF#8 && t.rrState == .idle && statusWord t == 0x00020000#32 && t.trace.getLast? == some (.devWrite 1 0xFF#8))
      = true := by decide
/-- The interface runs a table word as the first instruction after reset. -/
theorem test_fetch_word : after (State.reset.withFetchWord 32 0x304) (fun t => t.rrState == .frame && t.rrLoop && t.rrLast == 1#1) = true := by
  decide
/-- R79: `rr.load 1, x` writes the low word, then the high word. -/
theorem test_pseudo_load :
    hostAccess { program := expand (.load 1#1 (.lit 0x12345678000000AF#64)), at_ := 1, vars := [], waited := 0, asExpected := true }
      = some ⟨true, 2#2, 0x2C#6, 0x12345678#32⟩ := by decide

/-- R78: a `poll` binds its read to `t`, here STATUS with WCR_VALID still 0, and polls on. -/
theorem test_poll_binds_t :
    (let h := hostResponse { Outputs.quiet with busRdata := some 0x11#32 }
      { program := [.poll 4#6 2#32 2#32], at_ := 0, vars := [("t", 9#64)], waited := 0, asExpected := true }
     h.at_ = 0 ∧ h.vars = [("t", 0x11#64)]) := by decide
/-- R7 and R137: a product is exact before the division, as in the tick count of vector T10. -/
theorem test_host_product_is_exact :
    evalExpr [] (.div (.mul (.lit 0xFFFFFFFFFFFFFFFF#64) (.lit 1000#64)) (.lit 1000#64)) = 0xFFFFFFFFFFFFFFFF#64
      ∧ evalExpr [] (.div (.mul (.lit 0xFFFFFFFF#64) (.lit 0xFFFFFFFF#64)) (.lit 1000#64)) = 18446744065119617#64 := by decide
/-- R7: the other operators, at 64 bits. -/
theorem test_host_operators :
    evalExpr [] (.not (.lit 0xFF#64)) = 0xFFFFFFFFFFFFFF00#64 ∧ evalExpr [] (.xor (.lit 0xF0#64) (.lit 0xFF#64)) = 0x0F#64
      ∧ evalExpr [] (.shr (.lit 0x200000001#64) (.lit 32#64)) = 2#64 ∧ evalExpr [] (.shl (.lit 3#64) (.lit 63#64)) = 0x8000000000000000#64
      ∧ evalExpr [] (.eq (.lit 5#64) (.lit 5#64)) = 1#64 ∧ evalExpr [] (.ne (.lit 5#64) (.lit 5#64)) = 0#64
      ∧ evalExpr [] (.sub (.lit 0x100#64) (.lit 0xFFFFFFFFFFFFFF00#64)) = 0x200#64 := by decide
/-- R21 and I14: an undefined encoding has no successor in a reset cycle either. -/
theorem test_undefined_refused_in_reset :
    step { base with rrState := .undef6, pins := { quietPins with rst := true } } = .refused .rrStateUndefined := rfl

/-! ### Witnesses: a concrete state and operands for the hypotheses of each statement -/

/-- The state steps to a next state. -/
def steps (s : State) : Prop := ∃ t, step s = .next t

theorem witness_decode_of_encode : wellFormed (.illegal 0xFFFFFFFF#32) = true ∧ wellFormed (.rrSeq 1#1 true) = true := by decide
theorem witness_illegal_words :
    decodeCommand 0x00000007#32 = .illegal 0x00000007#32 ∧ decodeCommand 0x00000304#32 ≠ .illegal 0x00000304#32 := by decide
theorem witness_command_rows :
    0x101#32 &&& 0xFFFFFEFF#32 = 0x00000001#32 ∧ 0x103#32 &&& 0xFFFFFEFF#32 = 0x00000003#32 ∧ 0x304#32 &&& 0xFFFFFCFF#32 = 0x00000004#32
      ∧ 0#32 &&& 0xFFFFFFFF#32 = 0x00000000#32 ∧ 2#32 &&& 0xFFFFFFFF#32 = 0x00000002#32 ∧ 5#32 &&& 0xFFFFFFFF#32 = 0x00000005#32
      ∧ 6#32 &&& 0xFFFFFFFF#32 = 0x00000006#32 ∧ (∀ r ∈ commandRows, r.accepts 7 = false) := by decide
theorem witness_step_runs :
    (command 0x101#32 base).pins.rst = false ∧ fsmDefined (command 0x101#32 base) = true
      ∧ wellFormed (.wcrSample .instret) = true
      ∧ (command 0x101#32 base).pins.bus = some (accessOf (encode (.wcrSample .instret))) := by decide
theorem witness_quiet_cycle :
    base.pins.rst = false ∧ base.pins.bus = none ∧ base.wcrState = .idle ∧ base.rrState = .idle
      ∧ ({ base with rrState := .halted }).rrState = .halted := by decide
theorem witness_undefined_encodings :
    ({ base with wcrState := .undef5 }).wcrState = .undef5 ∧ ({ base with wcrState := .undef7 }).wcrState = .undef7
      ∧ wcrStateDefined ({ base with rrState := .undef6 }).wcrState = true ∧ ({ base with rrState := .undef6 }).rrState = .undef6 := by decide
theorem witness_defined : fsmDefined base = true := by decide
theorem witness_counters_advance : steps base := ⟨_, rfl⟩

/-- A state in a reset episode that ends after the next cycle. -/
def resetting : State :=
  { showing with pins := { quietPins with rst := true, bus := some ⟨false, 2#2, 4#6, 0#32⟩ }
                 upcoming := [{ quietPins with rst := true }, quietPins] }

theorem witness_reset_cycle : fsmDefined resetting = true ∧ resetting.pins.rst = true := by decide
theorem witness_reset_read :
    fsmDefined resetting = true ∧ resetting.pins.rst = true ∧ steps resetting
      ∧ resetting.pins.bus = some ⟨false, 2#2, 4#6, 0#32⟩ := ⟨by decide, by decide, ⟨_, rfl⟩, by decide⟩
theorem witness_reset_episode :
    fsmDefined resetting = true ∧ (∀ k ≤ 1, (pinsAhead resetting k).rst = true) ∧ (pinsAhead resetting 2).rst = false := by decide

/-- A sample in W_RD_L2, the highs 1 and 2. -/
def rereading : State := { base with wcrState := .rdL2, wcrWrap := true, wcrH1 := 1#32, wcrL1 := 0xFFFFFFFF#32, wcrH2 := 2#32 }

/-- A completed sample that took the correction. -/
def sampled : State :=
  { base with wcrWrap := true, wcrValid := true, wcrH1 := 1#32, wcrL1 := 0xFFFFFFFF#32, wcrH2 := 2#32, wcrL2 := 1#32,
              wcrRes := 0x0000000200000001#64 }

theorem witness_wcr_invariant_rereading : WcrInv rereading ∧ steps rereading := ⟨by constructor <;> decide, ⟨_, rfl⟩⟩
theorem witness_wcr_invariant_sampled : WcrInv sampled ∧ steps sampled := ⟨by constructor <;> decide, ⟨_, rfl⟩⟩
theorem witness_rr_invariant_showing : RrInv showing ∧ steps showing := ⟨by constructor <;> decide, ⟨_, rfl⟩⟩
theorem witness_rr_invariant_gap :
    RrInv { base with rrState := .gap, rrLoop := true } ∧ steps { base with rrState := .gap, rrLoop := true } :=
  ⟨by constructor <;> decide, ⟨_, rfl⟩⟩
theorem witness_trace_invariant : TraceInv base ∧ steps base := ⟨by constructor <;> decide, ⟨_, rfl⟩⟩
theorem witness_illegal_word : illegalWord 0x00000201#32 = true := by decide
theorem witness_wcr_sample : base.wcrState = .idle ∧ rereading.wcrState ≠ .idle := by decide
theorem witness_rr_commands : base.rrState = .idle ∧ showing.rrState ≠ .idle ∧ ({ base with rrState := .halted }).rrState ≠ .idle := by
  decide
theorem witness_dropped_command :
    (command 2#32 showing).pins.rst = false ∧ steps (command 2#32 showing) ∧ busyReject (command 2#32 showing) :=
  ⟨by decide, ⟨_, rfl⟩, .inl ⟨by decide, .inl ⟨.rrIdle, by decide⟩⟩⟩
theorem witness_dropped_value_write :
    (present ⟨true, 2#2, 0x2C#6, 5#32⟩ showing).pins.rst = false ∧ steps (present ⟨true, 2#2, 0x2C#6, 5#32⟩ showing)
      ∧ busyReject (present ⟨true, 2#2, 0x2C#6, 5#32⟩ showing) :=
  ⟨by decide, ⟨_, rfl⟩, .inl ⟨by decide, .inr ⟨.wrRrVal1Hi 5#32, by decide⟩⟩⟩
theorem witness_dropped_sample :
    (command 0x101#32 rereading).pins.rst = false ∧ steps (command 0x101#32 rereading) ∧ busyReject (command 0x101#32 rereading) :=
  ⟨by decide, ⟨_, rfl⟩, .inr ⟨by decide, .instret, by decide⟩⟩
theorem witness_sticky_illegal :
    steps (command 0x10#32 showing) ∧ ∃ w, issuedCommand (command 0x10#32 showing) = some (.illegal w) := ⟨⟨_, rfl⟩, 0x10#32, by decide⟩
theorem witness_sticky_kept :
    steps { showing with errIllegal := true, errBusy := true }
      ∧ issuedCommand { showing with errIllegal := true, errBusy := true } ≠ some .clrStatus := ⟨⟨_, rfl⟩, by decide⟩
theorem witness_sticky_cleared :
    steps (command 6#32 { showing with errIllegal := true, errBusy := true })
      ∧ issuedCommand (command 6#32 { showing with errIllegal := true, errBusy := true }) = some .clrStatus
      ∧ after (command 6#32 { showing with errIllegal := true, errBusy := true }) (fun t => !t.errIllegal && !t.errBusy) = true :=
  ⟨⟨_, rfl⟩, by decide, by decide⟩
theorem witness_cycle_recorded :
    steps (present ⟨false, 2#2, 4#6, 0#32⟩ rereading) ∧ (present ⟨false, 2#2, 4#6, 0#32⟩ rereading).pins.rst = false
      ∧ after (present ⟨false, 2#2, 4#6, 0#32⟩ rereading) (fun t => t.outputs.cnt.isSome && (busAccesses t.trace).length == 1) = true :=
  ⟨⟨_, rfl⟩, by decide, by decide⟩
theorem witness_bus_error :
    ¬ ((⟨false, 2#2, 0x3F#6, 0#32⟩ : Access).size = 2#2 ∧ (⟨false, 2#2, 0x3F#6, 0#32⟩ : Access).addr.extractLsb' 0 2 = 0#2)
      ∧ ((⟨true, 2#2, 0x3C#6, 0#32⟩ : Access).size = 2#2 ∧ (⟨true, 2#2, 0x3C#6, 0#32⟩ : Access).addr.extractLsb' 0 2 = 0#2) := by decide
theorem witness_read :
    (present ⟨false, 2#2, 4#6, 0#32⟩ showing).pins.rst = false
      ∧ (present ⟨false, 2#2, 4#6, 0#32⟩ showing).pins.bus = some ⟨false, 2#2, 4#6, 0#32⟩ ∧ steps (present ⟨false, 2#2, 4#6, 0#32⟩ showing) :=
  ⟨by decide, by decide, ⟨_, rfl⟩⟩

/-- A write of RR_VAL1_HI in this cycle and a read of it in the next. -/
def writeThenRead : State :=
  { present ⟨true, 2#2, 11#4 ++ 0#2, 5#32⟩ base with upcoming := [{ quietPins with bus := some ⟨false, 2#2, 11#4 ++ 0#2, 0#32⟩ }] }

theorem witness_value_word :
    11#4 ∈ [8#4, 9#4, 10#4, 11#4] ∧ writeThenRead.pins.rst = false ∧ fsmDefined writeThenRead = true ∧ writeThenRead.rrState = .idle
      ∧ writeThenRead.pins.bus = some ⟨true, 2#2, 11#4 ++ 0#2, 5#32⟩ ∧ (nextPins writeThenRead).rst = false
      ∧ ∃ e, (nextPins writeThenRead).bus = some ⟨false, 2#2, 11#4 ++ 0#2, e⟩ :=
  ⟨by decide, by decide, by decide, by decide, by decide, by decide, 0#32, by decide⟩
theorem witness_sequencer_steps :
    ∀ x ∈ [WcrState.rdH1, .rdL, .rdH2, .rdL2],
      ({ base with wcrState := x }).pins.rst = false ∧ fsmDefined { base with wcrState := x } = true := by decide
theorem witness_sequencer_highs :
    (counterValue { base with wcrState := .rdH2, wcrH1 := 1#32 } .cycle).extractLsb' 32 32 = 1#32
      ∧ (counterValue { base with wcrState := .rdH2, wcrH1 := 0#32 } .cycle).extractLsb' 32 32 ≠ 0#32 := by decide
theorem witness_idle_wcr :
    sampled.pins.rst = false ∧ sampled.wcrState = .idle ∧ (∀ k, issuedCommand sampled ≠ some (.wcrSample k)) ∧ steps sampled :=
  ⟨by decide, by decide, fun k => by cases k <;> decide, ⟨_, rfl⟩⟩
theorem witness_sample :
    fsmDefined (command 1#32 base) = true ∧ (command 1#32 base).wcrState = .idle ∧ noResetFor (command 1#32 base) 5
      ∧ issuedCommand (command 1#32 base) = some (.wcrSample .cycle) :=
  ⟨by decide, by decide, by unfold noResetFor; decide, by decide⟩
theorem witness_not_torn :
    fsmDefined { base with wcrState := .rdH1 } = true ∧ ({ base with wcrState := .rdH1 }).wcrWrap = false
      ∧ ({ base with wcrState := .rdH1 }).wcrValid = false
      ∧ noResetFor { base with wcrState := .rdH1 } 4 ∧ 3 * ({ base with wcrState := .rdH1 }).params.aMax.toNat ≤ 2 ^ 32 :=
  ⟨by decide, by decide, by decide, by unfold noResetFor; decide, by decide⟩
theorem witness_units_wcr :
    steps rereading ∧ steps { rereading with rrState := .frame, params := params false } ∧ WcrAgree rereading { rereading with rrState := .frame, params := params false } :=
  ⟨⟨_, rfl⟩, ⟨_, rfl⟩, by constructor <;> rfl⟩
theorem witness_units_rr : steps showing ∧ steps { showing with wcrState := .rdH2 } ∧ RrAgree showing { showing with wcrState := .rdH2 } :=
  ⟨⟨_, rfl⟩, ⟨_, rfl⟩, by constructor <;> rfl⟩
theorem witness_delays :
    base.params.delayMode = .calibrated ∧ ({ base with params := { params true with delayMode := .uncalibrated } }).params.delayMode = .uncalibrated := by
  decide

/-- A display with its timer running. -/
def holding : State := { showing with rrTimer := 4#64 }

theorem witness_running_timer :
    holding.pins.rst = false ∧ fsmDefined holding = true ∧ holding.rrState ∈ [.frame, .pause, .gap, .doneWait] ∧ holding.rrTimer ≠ 0#64 := by
  decide
theorem witness_frame_exit :
    showing.pins.rst = false ∧ fsmDefined showing = true ∧ showing.rrState = .frame ∧ showing.rrTimer = 0#64 ∧ showing.rrFrame ≠ 0#3
      ∧ ({ showing with rrFrame := 0#3 }).rrFrame = 0#3 := by decide
theorem witness_pause_exit :
    ({ base with rrState := .pause }).pins.rst = false ∧ fsmDefined { base with rrState := .pause } = true
      ∧ ({ base with rrState := .pause }).rrTimer = 0#64
      ∧ (({ base with rrState := .pause }).rrVidx = ({ base with rrState := .pause }).rrLast ∧ ({ base with rrState := .pause }).rrLoop = false)
      ∧ ¬ (({ base with rrState := .pause, rrLast := 1#1 }).rrVidx = ({ base with rrState := .pause, rrLast := 1#1 }).rrLast
        ∧ ({ base with rrState := .pause, rrLast := 1#1 }).rrLoop = false) := by decide
theorem witness_gap_exit :
    ({ base with rrState := .gap, rrLast := 1#1 }).pins.rst = false ∧ fsmDefined { base with rrState := .gap, rrLast := 1#1 } = true
      ∧ ({ base with rrState := .gap, rrLast := 1#1 }).rrTimer = 0#64 := by decide
theorem witness_done_exit :
    ({ base with rrState := .doneWait }).pins.rst = false ∧ fsmDefined { base with rrState := .doneWait } = true
      ∧ ({ base with rrState := .doneWait }).rrTimer = 0#64 := by decide
theorem witness_hold : fsmDefined holding = true ∧ holding.rrState ∈ [.frame, .pause, .gap, .doneWait] ∧ 4 ≤ holding.rrTimer.toNat
    ∧ noResetFor holding 4 := ⟨by decide, by decide, by decide, by unfold noResetFor; decide⟩
theorem witness_halt :
    fsmDefined { base with rrState := .halted } = true ∧ noResetFor { base with rrState := .halted } 20 :=
  ⟨by decide, by unfold noResetFor; decide⟩
theorem witness_loop :
    RrInv { base with rrState := .gap, rrLoop := true } ∧ noResetFor { base with rrState := .gap, rrLoop := true } 1
      ∧ ∃ t, reaches { base with rrState := .gap, rrLoop := true } 1 t :=
  ⟨by constructor <;> decide, by unfold noResetFor; decide, ⟨_, rfl⟩⟩
theorem witness_slots_locked : showing.pins.rst = false ∧ showing.rrState ≠ .idle ∧ steps showing := ⟨by decide, by decide, ⟨_, rfl⟩⟩
theorem witness_device_write :
    after showing (fun t => t.outputs.outWe) = true ∧ after (command 2#32 base) (fun t => t.outputs.outWe) = true
      ∧ after holding (fun t => !t.outputs.outWe) = true := by decide

/-- `rr.show 0` with `clk_hz` = 0, every state one cycle long. -/
def showFast : State :=
  { command 3#32 base with pins := { quietPins with bus := some ⟨true, 2#2, 0#6, 3#32⟩, clkHz := 0#32 }
                           upcoming := List.replicate 12 { quietPins with clkHz := 0#32 } }

theorem witness_show :
    fsmDefined showFast = true ∧ showFast.rrState = .idle ∧ issuedCommand showFast = some (.rrShow 0#1)
      ∧ noResetFor showFast (8 * (holdCycles showFast.params 0#32 500#32).toNat + (holdCycles showFast.params 0#32 800#32).toNat + 1)
      ∧ clockFor showFast 0#32 (8 * (holdCycles showFast.params 0#32 500#32).toNat + (holdCycles showFast.params 0#32 800#32).toNat + 1) :=
  ⟨by decide, by decide, by decide, by unfold noResetFor; decide, by unfold clockFor; decide⟩
theorem witness_polarity :
    samePath showing { showing with params := params false, out := 0x89#8 } ∧ steps showing
      ∧ (params false).activeLow = !showing.params.activeLow ∧ ({ showing with params := params false, out := 0x89#8 }).out = ~~~showing.out :=
  ⟨rfl, ⟨_, rfl⟩, by decide, by decide⟩

end Sys2Proof.Tests
end

section
/-!
SUPPORT. Encoding and decoding of the two forms of R63: a descriptor gives its fields back (R65), a defined access decodes to the read or
write of its register (R72), an illegal word decodes to ILLEGAL (R69), and so every well-formed instruction decodes from its encoded form.
-/

namespace Sys2Proof

/-- A descriptor gives back the WE, SIZE and OFF it was made of (R65). -/
theorem decode_descriptor (we : Bool) (size : BitVec 2) (off : BitVec 6) (d : Word) :
    decode (.bus (descriptor we size off) d) = decodeBus we size off d := by
  have hwe : (descriptor we size off).getLsbD 8 = we := by
    revert we size off; decide
  have hsize : (descriptor we size off).extractLsb' 6 2 = size := by
    revert we size off; decide
  have hoff : (descriptor we size off).extractLsb' 0 6 = off := by
    revert we size off; decide
  simp only [decode, hwe, hsize, hoff]

/-- The access of an aligned word is defined, and is the read or the write of the register there (R72). -/
theorem decodeBus_aligned (we : Bool) (n : BitVec 4) (d : Word) :
    decodeBus we 2#2 (n ++ 0#2) d = if we then writeAt n d else readAt n := by
  have hword : (n ++ 0#2).extractLsb' 2 4 = n := by revert n; decide
  have hlow : (n ++ 0#2).extractLsb' 0 2 = 0#2 := by revert n; decide
  simp only [decodeBus, hword, hlow]
  rfl

theorem decode_encodeRead (n : BitVec 4) : decode (encodeRead n) = readAt n := by
  simp [encodeRead, decode_descriptor, decodeBus_aligned]

theorem decode_encodeWrite (n : BitVec 4) (d : Word) : decode (encodeWrite n d) = writeAt n d := by
  simp [encodeWrite, decode_descriptor, decodeBus_aligned]

/-- A word that one of the clauses of R69 makes illegal matches no command row. -/
theorem decodeCommand_of_illegalWord {w : Word} (h : illegalWord w = true) : decodeCommand w = .illegal w := by
  unfold decodeCommand
  split
  · rfl
  · next hbits =>
    simp only [not_or, not_not] at hbits
    obtain ⟨hhigh, hlow⟩ := hbits
    simp only [illegalWord, reservedOp, reservedLowBits, reservedHighBits, strayLoopBit, strayOperandBit, hhigh, hlow] at h
    generalize w.extractLsb' 0 4 = op at h ⊢
    generalize w.getLsbD 8 = a at h ⊢
    generalize w.getLsbD 9 = b at h ⊢
    split
    case h_5 hop => simp [hop, BitVec.toNat_eq] at h
    case h_8 => rfl
    all_goals
      next hop => simpa [hop, BitVec.toNat_eq, imp_iff_or_not] using h

/-- Decoding undoes encoding, for every row of the table (R63 to R72). -/
theorem decode_encode {i : Instr} (h : wellFormed i = true) : decode (encode i) = i := by
  cases i
  case illegal w => simp [encode, encodeCommand, decode, decodeCommand_of_illegalWord h, instrOfCmd]
  case wcrSample k => cases k <;> rfl
  case rrShow slot => revert slot; decide
  case rrSeq cnt loop => revert cnt loop; decide
  case buserrSize0 we off => simp [encode, decode_descriptor, decodeBus]
  case buserrSize1 we off => simp [encode, decode_descriptor, decodeBus]
  case buserrSize3 we off => simp [encode, decode_descriptor, decodeBus]
  case buserrMisaligned1 we word => revert we word; decide
  case buserrMisaligned2 we word => revert we word; decide
  case buserrMisaligned3 we word => revert we word; decide
  all_goals simp [encode, decode_encodeRead, decode_encodeWrite, readAt, writeAt]
  all_goals rfl

end Sys2Proof
end

section
/-!
SUPPORT. What every step does, in reset or not, each said once: it answers a next state from every defined state and ends in a defined one
(R11), it moves the cycle number and the inputs on, it adds the events of its own outputs to the trace (R10), and without a pulse on `out_we`
it leaves OUT (R37).
-/

namespace Sys2Proof.Machine

theorem fsmDefined_iff {s : State} :
    fsmDefined s = true ↔ wcrStateDefined s.wcrState = true ∧ rrStateDefined s.rrState = true := by
  simp [fsmDefined]

/-! ### The host access of a cycle -/

/-- The state that the host access of the cycle `s`, or its absence, makes: what `step_cases` and `step_next` say of it. -/
def AccessMakes (s u : State) : Prop :=
  (fetch s = none ∧ u = quiet s) ∨ ∃ i, fetch s = some i ∧ exec i s = .next u

/-- An accepted RR command leaves a defined RR_STATE. -/
theorem rrAccepted_defined {c : Cmd} {s : State} (hc : isRrCommand c = true) (hd : rrStateDefined s.rrState = true) :
    rrStateDefined (rrAccepted c s).rrState = true := by
  cases c with
  | rrIdle => exact hd
  | rrShow | rrSeq | rrDone => rfl
  | nop | wcrSample | clrStatus | illegal => cases hc

/-- Every accepted RR command is a device write (R140 to R144, R163). -/
theorem rrAccepted_outWe {c : Cmd} {s : State} (hc : isRrCommand c = true) : (rrAccepted c s).outputs.outWe = true := by
  cases c with
  | rrIdle | rrShow | rrSeq | rrDone => rfl
  | nop | wcrSample | clrStatus | illegal => cases hc

/-- No host access leads to an undefined encoding. -/
theorem access_defined {s u : State} (h : AccessMakes s u) (hd : fsmDefined s = true) : fsmDefined u = true := by
  obtain ⟨hw, hr⟩ := fsmDefined_iff.mp hd
  rcases h with ⟨_, rfl⟩ | ⟨i, _, hx⟩
  · exact hd
  · refine fsmDefined_iff.mpr ⟨?_, ?_⟩
    · rcases exec_wcr hx with hsame | ⟨_, k, _, rfl⟩
      · rwa [hsame.wcrState]
      · rfl
    · rcases exec_rr hx with ⟨hsame, _⟩ | ⟨_, c, hc, _, rfl⟩
      · rwa [hsame.rrState]
      · exact rrAccepted_defined hc hr

/-- A host access that drives no device write leaves OUT. -/
theorem access_out_of_no_pulse {s u : State} (h : AccessMakes s u) (hp : u.outputs.outWe = false) : u.out = s.out := by
  rcases h with ⟨_, rfl⟩ | ⟨i, _, hx⟩
  · rfl
  · rcases exec_rr hx with ⟨hsame, _⟩ | ⟨_, c, hc, _, rfl⟩
    · exact hsame.out
    · rw [rrAccepted_outWe hc] at hp
      cases hp

/-! ### The units' own steps -/

/-- The WCR's step goes from defined encodings to a defined WCR_STATE (R117 to R120). -/
theorem wcrStep_defined {s0 s : State} (hd : wcrStateDefined s.wcrState = true) :
    wcrStateDefined (wcrStep s0 s).wcrState = true := by
  unfold wcrStep
  cases s0.wcrState with
  | idle | undef5 | undef6 | undef7 => exact hd
  | rdH1 | rdL | rdL2 => rfl
  | rdH2 =>
    simp only [stepRdH2]
    split <;> rfl

/-- An exit of the RR ends in a defined RR_STATE (R147 to R150, R165). -/
theorem rrExit_defined {s0 s : State} (hd : rrStateDefined s.rrState = true) :
    rrStateDefined (rrExit s0 s).rrState = true := by
  unfold rrExit
  cases s0.rrState with
  | frame =>
    simp only [exitFrame]
    split <;> rfl
  | pause =>
    simp only [exitPause, endOfValue]
    split <;> rfl
  | gap | doneWait => rfl
  | idle | halted | undef6 | undef7 => exact hd

theorem rrStep_defined {s0 s : State} (hd : rrStateDefined s.rrState = true) :
    rrStateDefined (rrStep s0 s).rrState = true := by
  rcases rrStep_cases s0 s with ⟨_, h⟩ | ⟨_, _, h⟩ | ⟨_, _, h⟩ <;> rw [h]
  · exact hd
  · exact hd
  · exact rrExit_defined hd

/-- An exit of the RR without a pulse on `out_we` leaves OUT, and nothing before it in the cycle made a pulse. -/
theorem rrExit_out_of_no_pulse {s0 s : State} (hp : (rrExit s0 s).outputs.outWe = false) :
    s.outputs.outWe = false ∧ (rrExit s0 s).out = s.out := by
  unfold rrExit at hp ⊢
  cases hs : s0.rrState <;> simp only [hs] at hp ⊢
  case frame =>
    unfold exitFrame at hp ⊢
    split at hp
    · cases hp
    · next hlast =>
      rw [if_neg hlast]
      exact ⟨hp, rfl⟩
  case pause =>
    unfold exitPause endOfValue at hp
    split at hp <;> cases hp
  case gap => cases hp
  case doneWait => exact ⟨hp, rfl⟩
  all_goals exact ⟨hp, trivial⟩

theorem rrStep_out_of_no_pulse {s0 s : State} (hp : (rrStep s0 s).outputs.outWe = false) :
    s.outputs.outWe = false ∧ (rrStep s0 s).out = s.out := by
  rcases rrStep_cases s0 s with ⟨_, h⟩ | ⟨_, _, h⟩ | ⟨_, _, h⟩ <;> rw [h] at hp ⊢
  · exact ⟨hp, rfl⟩
  · exact ⟨hp, rfl⟩
  · exact rrExit_out_of_no_pulse hp

/-! ### The reset cycle -/

@[simp] theorem resetOutputs_cnt (bus : Option Access) : (resetOutputs bus).cnt = none := by
  unfold resetOutputs
  split
  · split <;> rfl
  · rfl

@[simp] theorem resetOutputs_outWe (bus : Option Access) : (resetOutputs bus).outWe = false := by
  unfold resetOutputs
  split
  · split <;> rfl
  · rfl

@[simp] theorem resetCycle_params (s : State) : (resetCycle s).params = s.params := rfl
@[simp] theorem resetCycle_wcrState (s : State) : (resetCycle s).wcrState = .idle := rfl
@[simp] theorem resetCycle_rrState (s : State) : (resetCycle s).rrState = .idle := rfl
@[simp] theorem resetCycle_out (s : State) : (resetCycle s).out = idlePattern s.params := rfl
@[simp] theorem resetCycle_pins (s : State) : (resetCycle s).pins = nextPins s := rfl
@[simp] theorem resetCycle_outputs (s : State) : (resetCycle s).outputs = resetOutputs s.pins.bus := rfl
@[simp] theorem resetCycle_cycle (s : State) : (resetCycle s).cycle = s.cycle + 1 := rfl
@[simp] theorem resetCycle_trace (s : State) :
    (resetCycle s).trace =
      s.trace ++ cycleEvents s.cycle s.pins.bus (resetOutputs s.pins.bus) (idlePattern s.params) ++ releaseEvents s := rfl

/-- A step in reset, from a defined state, is the reset cycle (R185, R201). -/
theorem step_reset {s : State} (hr : s.pins.rst = true) (hd : fsmDefined s = true) : step s = .next (resetCycle s) := by
  obtain ⟨hw, hx⟩ := fsmDefined_iff.mp hd
  simp [step, hr, hw, hx]

/-! ### Steps and runs -/

/-- From a defined state every step answers a next state, in reset or not. -/
theorem step_answers {s : State} (hd : fsmDefined s = true) : ∃ t, step s = .next t := by
  cases hr : s.pins.rst with
  | true => exact ⟨_, step_reset hr hd⟩
  | false =>
    obtain ⟨u, hu, _⟩ := step_next hr hd
    exact ⟨_, hu⟩

/-- A step that answers a next state ends in a defined one. -/
theorem step_defined {s t : State} (h : step s = .next t) : fsmDefined t = true := by
  obtain ⟨hw, hx, ⟨_, rfl⟩ | ⟨_, u, rfl, hu⟩⟩ := step_cases h
  · rfl
  · obtain ⟨huw, hur⟩ := fsmDefined_iff.mp (access_defined hu (fsmDefined_iff.mpr ⟨hw, hx⟩))
    refine fsmDefined_iff.mpr ⟨?_, ?_⟩
    · simpa using wcrStep_defined huw
    · simpa using rrStep_defined (by simpa using hur)

@[simp] theorem reaches_zero {s t : State} : reaches s 0 t ↔ s = t :=
  Iff.of_eq (Host.Outcome.next.injEq s t)

/-- A run of one more cycle is the step of the first one and the run from there. -/
theorem reaches_succ {s u t : State} {n : Nat} (h : step s = .next u) : reaches s (n + 1) t ↔ reaches u n t := by
  have hc : Sys2Proof.core.step s = .next u := h
  simp [reaches, Host.Core.run, hc]

/-- In a cycle without reset, from a defined state, a step executes the access presented on the bus and ends the cycle. -/
theorem step_runs_access {s : State} {a : Access} (hr : s.pins.rst = false) (hd : fsmDefined s = true)
    (ha : s.pins.bus = some a) : ∃ u, exec (decodeAccess a) s = .next u ∧ step s = .next (finishCycle s u) := by
  have hf : fetch s = some (decodeAccess a) := by simp [fetch, ha]
  obtain ⟨u, hu, ⟨hn, _⟩ | ⟨i, hi, hx⟩⟩ := step_next hr hd
  · rw [hf] at hn
    cases hn
  · rw [hf] at hi
    cases hi
    exact ⟨u, hx, hu⟩

/-- A command's own row has the effect of issuing the command (R171). -/
theorem exec_instrOfCmd (c : Cmd) (s : State) : exec (instrOfCmd c) s = issue c s := by
  cases c <;> rfl

/-- The access that presents an encoded form has the effect of the instruction the form decodes to: a command word is written to CMD, which
issues the command (R63, R76, R82). -/
theorem exec_access_of_encoded (e : Encoded) (s : State) : exec (decodeAccess (accessOf e)) s = exec (decode e) s := by
  cases e with
  | cmd w =>
    have hwrite : decodeAccess (accessOf (.cmd w)) = .wrCmd w := decodeBus_aligned true 0#4 w
    rw [hwrite]
    exact (exec_instrOfCmd (decodeCommand w) s).symm
  | bus desc d => rfl

/-- Every step moves to the next cycle and its inputs, and keeps the build's parameters (R44). -/
theorem step_environment {s t : State} (h : step s = .next t) :
    t.cycle = s.cycle + 1 ∧ t.pins = nextPins s ∧ t.params = s.params := by
  obtain ⟨_, _, ⟨_, rfl⟩ | ⟨_, u, rfl, hu⟩⟩ := step_cases h
  · exact ⟨rfl, rfl, rfl⟩
  · obtain ⟨hparams, _, _⟩ := access_env hu
    simp [hparams]

/-- What a step adds to the trace: the events of its access and its outputs, and in reset those of the release (R10, R202). -/
theorem step_trace {s t : State} (h : step s = .next t) :
    t.trace = s.trace ++ cycleEvents s.cycle s.pins.bus t.outputs t.out
      ++ (if s.pins.rst then releaseEvents s else []) := by
  obtain ⟨_, _, ⟨hr, rfl⟩ | ⟨hr, u, rfl, hu⟩⟩ := step_cases h
  · simp [hr]
  · obtain ⟨_, htrace, _⟩ := access_env hu
    simp [hr, htrace]

/-- A step in reset reads no counter, makes no pulse on `out_we` and puts IDLE_PATTERN on OUT (R201). -/
theorem step_reset_outputs {s t : State} (hr : s.pins.rst = true) (h : step s = .next t) :
    t.outputs.cnt = none ∧ t.outputs.outWe = false ∧ t.out = idlePattern s.params := by
  obtain ⟨_, _, ⟨_, rfl⟩ | ⟨hr', _⟩⟩ := step_cases h
  · simp
  · rw [hr] at hr'
    cases hr'

/-- Without reset and without a pulse on `out_we`, a step leaves OUT (R37). -/
theorem step_out_of_no_pulse {s t : State} (hr : s.pins.rst = false) (h : step s = .next t)
    (hp : t.outputs.outWe = false) : t.out = s.out := by
  obtain ⟨_, _, ⟨hr', _⟩ | ⟨_, u, rfl, hu⟩⟩ := step_cases h
  · rw [hr] at hr'
    cases hr'
  · rw [finishCycle_outputs] at hp
    obtain ⟨hwe, hout⟩ := rrStep_out_of_no_pulse hp
    rw [wcrStep_outputs_outWe] at hwe
    rw [finishCycle_out, hout, wcrStep_out, access_out_of_no_pulse hu hwe]

/-! ### The events of a step -/

theorem devWrites_releaseEvents (s : State) :
    devWrites (releaseEvents s) = if (nextPins s).rst then [] else [(s.cycle, idlePattern s.params)] := by
  unfold releaseEvents
  split <;> rfl

theorem counterReads_releaseEvents (s : State) : counterReads (releaseEvents s) = [] := by
  unfold releaseEvents
  split <;> rfl

theorem busAccesses_releaseEvents (s : State) : busAccesses (releaseEvents s) = [] := by
  unfold releaseEvents
  split <;> rfl

theorem step_busAccesses {s t : State} (h : step s = .next t) :
    busAccesses t.trace = busAccesses s.trace
      ++ (s.pins.bus.map fun a => (s.cycle, a, t.outputs.busRdata, t.outputs.busErr)).toList := by
  rw [step_trace h]
  cases s.pins.rst <;> simp [busAccesses_releaseEvents]

theorem step_counterReads {s t : State} (h : step s = .next t) :
    counterReads t.trace = counterReads s.trace
      ++ (t.outputs.cnt.map fun r => (s.cycle, r.kind, r.half, r.data)).toList := by
  rw [step_trace h]
  cases s.pins.rst <;> simp [counterReads_releaseEvents]

/-- The device write of a step is that of its pulse on `out_we`, or in reset that of the release (R202). -/
theorem step_devWrites {s t : State} (h : step s = .next t) :
    devWrites t.trace = devWrites s.trace ++ (if t.outputs.outWe then [(s.cycle, t.out)] else [])
      ++ (if s.pins.rst then devWrites (releaseEvents s) else []) := by
  rw [step_trace h]
  cases s.pins.rst <;> simp

/-- The last device write of a step that ends outside a reset episode: OUT of the next state, or, where the step wrote nothing, the one
before it, OUT being unchanged. -/
theorem step_last_device_write {s t : State} (h : step s = .next t) (hr : t.pins.rst = false) :
    (∃ ws, devBytes t.trace = ws ++ [t.out]) ∨ (s.pins.rst = false ∧ devBytes t.trace = devBytes s.trace ∧ t.out = s.out) := by
  obtain ⟨_, hpins, _⟩ := step_environment h
  rw [hpins] at hr
  unfold devBytes
  rw [step_devWrites h]
  cases hrst : s.pins.rst with
  | true =>
    obtain ⟨_, hwe, hout⟩ := step_reset_outputs hrst h
    exact .inl ⟨devBytes s.trace, by simp [devWrites_releaseEvents, hr, hwe, hout, devBytes]⟩
  | false =>
    cases hwe : t.outputs.outWe with
    | true => exact .inl ⟨devBytes s.trace, by simp [devBytes]⟩
    | false => exact .inr ⟨rfl, by simp, step_out_of_no_pulse hrst h hwe⟩

theorem eventCycle_of_mem_cycleEvents {n : Nat} {bus : Option Access} {o : Outputs} {v : Byte} {e : Event}
    (h : e ∈ cycleEvents n bus o v) : eventCycle e = n := by
  simp only [cycleEvents, List.mem_append] at h
  rcases h with (h | h) | h
  all_goals
    split at h
    · obtain rfl := List.mem_singleton.mp h
      rfl
    · cases h

theorem eventCycle_of_mem_releaseEvents {s : State} {e : Event} (h : e ∈ releaseEvents s) : eventCycle e = s.cycle := by
  unfold releaseEvents at h
  split at h
  · cases h
  · obtain rfl := List.mem_singleton.mp h
    rfl

/-- An event of the trace after a step stood in it before, or is of the step's own cycle. -/
theorem step_mem_trace {s t : State} (h : step s = .next t) {e : Event} (he : e ∈ t.trace) :
    e ∈ s.trace ∨ eventCycle e = s.cycle := by
  rw [step_trace h, List.mem_append, List.mem_append] at he
  rcases he with (he | he) | he
  · exact .inl he
  · exact .inr (eventCycle_of_mem_cycleEvents he)
  · split at he
    · exact .inr (eventCycle_of_mem_releaseEvents he)
    · cases he

end Sys2Proof.Machine
end

section
/-!
CERTIFICATES. The statements of 00_scope.md: a step runs the presented instruction (R9), records its cycle (R10), keeps the trace invariant
(R37, R202), and the block is never stuck (R11).
-/

namespace Sys2Proof.Machine

/-- Settles O9, by induction on the number of cycles: a defined state steps, and steps to a defined state. -/
theorem everyRunGoesOn : Obligations.EveryRunGoesOn := by
  intro n
  induction n with
  | zero => exact fun s hd => ⟨s, reaches_zero.mpr rfl, hd⟩
  | succ n ih =>
    intro s hd
    obtain ⟨u, hu⟩ := step_answers hd
    obtain ⟨t, ht, hdt⟩ := ih u (step_defined hu)
    exact ⟨t, (reaches_succ hu).mpr ht, hdt⟩

/-- Settles O18: a step only appends events of its own cycle, and the last device write follows OUT. -/
theorem stepKeepsTheTraceInvariant : Obligations.StepKeepsTheTraceInvariant := by
  intro s t hinv h
  obtain ⟨hcycle, _, hparams⟩ := step_environment h
  constructor
  case startsIdle =>
    have hfirst := hinv.startsIdle
    have hgrow : ∃ ws, devBytes t.trace = devBytes s.trace ++ ws := ⟨_, by
      rw [devBytes, step_devWrites h, List.append_assoc, List.map_append, devBytes]⟩
    obtain ⟨ws, hws⟩ := hgrow
    rw [hws, List.head?_append, hfirst, hparams, Option.some_or]
  case lastIsOut =>
    intro hr
    rcases step_last_device_write h hr with ⟨ws, hws⟩ | ⟨hrst, hsame, hout⟩
    · rw [hws, List.getLast?_concat]
    · rw [hsame, hout, hinv.lastIsOut hrst]
  case eventsPast =>
    intro e he
    rw [hcycle]
    rcases step_mem_trace h he with hold | hnew
    · exact Nat.lt_succ_of_lt (hinv.eventsPast e hold)
    · exact Nat.lt_succ_of_le hnew.le

/-- Settles O39: the three views of what a step adds to the trace. -/
theorem everyCycleIsRecordedInTheTrace : Obligations.EveryCycleIsRecordedInTheTrace := by
  intro s t h
  refine ⟨?_, ?_, ?_, ?_, ?_⟩
  · intro hb
    simp [step_busAccesses h, hb]
  · intro a hb
    simp [step_busAccesses h, hb]
  · intro hc
    simp [step_counterReads h, hc]
  · intro r hc
    simp [step_counterReads h, hc]
  · intro hr
    simp [step_devWrites h, hr]

/-- Settles O6: the access of an encoded form has the effect of its instruction, and a step executes the access. -/
theorem stepRunsThePresentedInstruction : Obligations.StepRunsThePresentedInstruction := by
  intro s hr hd
  refine ⟨?_, fun a ha => step_runs_access hr hd ha⟩
  intro i hi hb
  obtain ⟨u, hx, hs⟩ := step_runs_access hr hd hb
  rw [exec_access_of_encoded, decode_encode hi] at hx
  exact ⟨u, hx, hs⟩

end Sys2Proof.Machine
end

section
/-!
SUPPORT. What keeps the invariant of the WCR (R21 to R26, R116 to R121): it speaks of the WCR's registers alone, a started sample meets it, and
each of the four sequencer steps carries it on.
-/

namespace Sys2Proof.Machine

/-! ### States that meet the invariant -/

/-- The invariant of the WCR is one of the WCR's registers alone. -/
theorem wcrInv_of_same {s u : State} (h : WcrSame s u) (hi : WcrInv s) : WcrInv u where
  stateDefined := by simpa only [h.wcrState] using hi.stateDefined
  busyNotValid := by simpa only [h.wcrState, h.wcrValid] using hi.busyNotValid
  wrapPlace := by simpa only [h.wcrState, h.wcrWrap] using hi.wrapPlace
  rereadNeedsWrap := by simpa only [h.wcrState, h.wcrWrap, h.wcrH1, h.wcrH2] using hi.rereadNeedsWrap
  capturesClear := by simpa only [h.wcrState, h.wcrH1, h.wcrL1, h.wcrH2, h.wcrL2] using hi.capturesClear
  validResult := by
    simpa only [h.wcrValid, h.wcrRes, h.wcrWrap, h.wcrH1, h.wcrL1, h.wcrH2, h.wcrL2] using hi.validResult
  idleNotValid := by simpa only [h.wcrState, h.wcrValid, h.wcrRes, h.wcrWrap] using hi.idleNotValid

/-- In the middle of a sample the clauses about a result say nothing, WCR_VALID being 0 (R25). -/
theorem wcrInv_of_sampling {s : State} (hdef : wcrStateDefined s.wcrState = true) (hbusy : s.wcrState ≠ .idle)
    (hvalid : s.wcrValid = false) (hwrap : s.wcrWrap = true → s.wcrState = .rdL2)
    (hreread : s.wcrState = .rdL2 → s.wcrWrap = true ∧ s.wcrH1 ≠ s.wcrH2)
    (hclear : (s.wcrState = .rdH1 → s.wcrH1 = 0#32 ∧ s.wcrL1 = 0#32 ∧ s.wcrH2 = 0#32 ∧ s.wcrL2 = 0#32)
      ∧ (s.wcrState = .rdL → s.wcrL1 = 0#32 ∧ s.wcrH2 = 0#32 ∧ s.wcrL2 = 0#32)
      ∧ (s.wcrState = .rdH2 → s.wcrH2 = 0#32 ∧ s.wcrL2 = 0#32)
      ∧ (s.wcrState = .rdL2 → s.wcrL2 = 0#32)) : WcrInv s where
  stateDefined := hdef
  busyNotValid _ := hvalid
  wrapPlace hw := .inl (hwrap hw)
  rereadNeedsWrap := hreread
  capturesClear := hclear
  validResult hv := by rw [hvalid] at hv; cases hv
  idleNotValid hidle := absurd hidle hbusy

/-- In an idle WCR with a valid result only the result is spoken of (R25, R26, R121). -/
theorem wcrInv_of_completed {s : State} (hidle : s.wcrState = .idle) (hvalid : s.wcrValid = true)
    (hres : s.wcrRes = wideSample s.wcrH1 s.wcrL1 s.wcrH2 s.wcrL2)
    (hwrap : s.wcrWrap = true ↔ s.wcrH1 ≠ s.wcrH2) (hl2 : s.wcrWrap = false → s.wcrL2 = 0#32) : WcrInv s where
  stateDefined := by rw [hidle]; rfl
  busyNotValid hb := absurd hidle hb
  wrapPlace _ := .inr hidle
  rereadNeedsWrap hs := by rw [hidle] at hs; cases hs
  capturesClear := by simp [hidle]
  validResult _ := ⟨hres, hwrap, hl2⟩
  idleNotValid _ hv := by rw [hvalid] at hv; cases hv

/-- An idle WCR without a valid result has taken no sample since reset (R40). -/
theorem wcrInv_of_no_sample {s : State} (hidle : s.wcrState = .idle) (hvalid : s.wcrValid = false)
    (hres : s.wcrRes = 0#64) (hwrap : s.wcrWrap = false) : WcrInv s where
  stateDefined := by rw [hidle]; rfl
  busyNotValid _ := hvalid
  wrapPlace _ := .inr hidle
  rereadNeedsWrap hs := by rw [hidle] at hs; cases hs
  capturesClear := by simp [hidle]
  validResult hv := by rw [hvalid] at hv; cases hv
  idleNotValid _ _ := ⟨hres, hwrap⟩

/-- Before the highs are compared WCR_WRAP is 0 (R26, R119). -/
theorem WcrInv.wrap_clear {s : State} (hi : WcrInv s) (hidle : s.wcrState ≠ .idle) (hl2 : s.wcrState ≠ .rdL2) :
    s.wcrWrap = false := by
  cases hw : s.wcrWrap with
  | false => rfl
  | true => exact absurd (hi.wrapPlace hw) (not_or.mpr ⟨hl2, hidle⟩)

theorem sampleStarted_wcrInv (k : Kind) (s : State) : WcrInv (sampleStarted k s) :=
  wcrInv_of_sampling rfl nofun rfl nofun nofun ⟨fun _ => ⟨rfl, rfl, rfl, rfl⟩, nofun, nofun, nofun⟩

theorem resetCycle_wcrInv (s : State) : WcrInv (resetCycle s) :=
  wcrInv_of_no_sample rfl rfl rfl rfl

/-- A host access leaves the WCR's registers or starts a sample (R177). -/
theorem access_wcrInv {s u : State} (h : AccessMakes s u) (hi : WcrInv s) : WcrInv u := by
  rcases h with ⟨_, rfl⟩ | ⟨i, _, hx⟩
  · exact wcrInv_of_same (s := s) ⟨rfl, rfl, rfl, rfl, rfl, rfl, rfl, rfl, rfl⟩ hi
  · rcases exec_wcr hx with hsame | ⟨_, k, _, rfl⟩
    · exact wcrInv_of_same hsame hi
    · exact sampleStarted_wcrInv k s

/-! ### The sequencer's steps -/

section Steps

variable {s0 s : State}

theorem stepRdH1_wcrInv (hi : WcrInv s) (hs : s.wcrState = .rdH1) : WcrInv (stepRdH1 s0 s) := by
  have hbusy : s.wcrState ≠ .idle := by simp [hs]
  have hwrap : s.wcrWrap = false := hi.wrap_clear hbusy (by simp [hs])
  obtain ⟨_, hl1, hh2, hl2⟩ := hi.capturesClear.1 hs
  refine wcrInv_of_sampling rfl nofun (hi.busyNotValid hbusy) ?_ nofun ⟨nofun, fun _ => ⟨hl1, hh2, hl2⟩, nofun, nofun⟩
  simp [stepRdH1, hwrap]

theorem stepRdL_wcrInv (hi : WcrInv s) (hs : s.wcrState = .rdL) : WcrInv (stepRdL s0 s) := by
  have hbusy : s.wcrState ≠ .idle := by simp [hs]
  have hwrap : s.wcrWrap = false := hi.wrap_clear hbusy (by simp [hs])
  obtain ⟨_, hclear, _, _⟩ := hi.capturesClear
  obtain ⟨_, hh2, hl2⟩ := hclear hs
  refine wcrInv_of_sampling rfl nofun (hi.busyNotValid hbusy) ?_ nofun ⟨nofun, nofun, fun _ => ⟨hh2, hl2⟩, nofun⟩
  simp [stepRdL, hwrap]

/-- Equal highs complete the sample with WCR_WRAP clear; unequal ones set it and go on to the re-read (R119). -/
theorem stepRdH2_wcrInv (hi : WcrInv s) (hs : s.wcrState = .rdH2) (hh1 : s0.wcrH1 = s.wcrH1) (hl1 : s0.wcrL1 = s.wcrL1) :
    WcrInv (stepRdH2 s0 s) := by
  have hbusy : s.wcrState ≠ .idle := by simp [hs]
  have hwrap : s.wcrWrap = false := hi.wrap_clear hbusy (by simp [hs])
  obtain ⟨_, _, hclear, _⟩ := hi.capturesClear
  obtain ⟨_, hl2⟩ := hclear hs
  simp only [stepRdH2]
  split
  · next heq =>
    refine wcrInv_of_completed rfl rfl ?_ ?_ (fun _ => hl2)
    · simp [wideSample, heq, hh1, hl1]
    · simp [hwrap, heq, hh1]
  · next hne =>
    refine wcrInv_of_sampling rfl nofun (hi.busyNotValid hbusy) (fun _ => rfl) (fun _ => ⟨rfl, ?_⟩)
      ⟨nofun, nofun, nofun, fun _ => hl2⟩
    simpa [hh1] using Ne.symm hne

/-- The re-read completes the sample with the second high, WCR_WRAP staying set (R120). -/
theorem stepRdL2_wcrInv (hi : WcrInv s) (hs : s.wcrState = .rdL2) (hh2 : s0.wcrH2 = s.wcrH2) :
    WcrInv (stepRdL2 s0 s) := by
  obtain ⟨hwrap, hne⟩ := hi.rereadNeedsWrap hs
  refine wcrInv_of_completed rfl rfl ?_ ?_ ?_
  · simp [stepRdL2, wideSample, hne, hh2]
  · simp [stepRdL2, hwrap, hne]
  · simp [stepRdL2, hwrap]

/-- The WCR's step of a cycle keeps the invariant, the host access having left a sampling WCR as it was. -/
theorem wcrStep_wcrInv (hi : WcrInv s) (hsame : s0.wcrState ≠ .idle → WcrSame s0 s) : WcrInv (wcrStep s0 s) := by
  by_cases hidle : s0.wcrState = .idle
  · simpa only [wcrStep, hidle] using hi
  · have hw := hsame hidle
    unfold wcrStep
    cases hs : s0.wcrState with
    | idle | undef5 | undef6 | undef7 => exact hi
    | rdH1 => exact stepRdH1_wcrInv hi (hw.wcrState.trans hs)
    | rdL => exact stepRdL_wcrInv hi (hw.wcrState.trans hs)
    | rdH2 => exact stepRdH2_wcrInv hi (hw.wcrState.trans hs) hw.wcrH1.symm hw.wcrL1.symm
    | rdL2 => exact stepRdL2_wcrInv hi (hw.wcrState.trans hs) hw.wcrH2.symm

end Steps

/-- The end of a cycle adds nothing to the WCR's own step. -/
theorem finishCycle_wcrSame (s0 s : State) : WcrSame (wcrStep s0 s) (finishCycle s0 s) := by
  constructor <;> simp

end Sys2Proof.Machine
end


section
/-!
SUPPORT. What keeps the invariant of the RR (R28 to R31, R141 to R150, R163 to R168): it speaks of the RR's registers, the value slots and the
polarity alone, every accepted command and every entry of a frame meets it, and each exit of a state with a hold carries it on.
-/

namespace Sys2Proof.Machine

/-! ### States that meet the invariant -/

theorem RrAgree.trans {s u v : State} (hsu : RrAgree s u) (huv : RrAgree u v) : RrAgree s v where
  rrState := hsu.rrState.trans huv.rrState
  rrFrame := hsu.rrFrame.trans huv.rrFrame
  rrVidx := hsu.rrVidx.trans huv.rrVidx
  rrLast := hsu.rrLast.trans huv.rrLast
  rrLoop := hsu.rrLoop.trans huv.rrLoop
  rrTimer := hsu.rrTimer.trans huv.rrTimer
  rrVal0 := hsu.rrVal0.trans huv.rrVal0
  rrVal1 := hsu.rrVal1.trans huv.rrVal1
  out := hsu.out.trans huv.out

theorem expectedOut_of_agree {s u : State} (h : RrAgree s u) (hp : u.params = s.params) :
    expectedOut u = expectedOut s := by
  simp only [expectedOut, slotValue, hp, h.rrState, h.rrVidx, h.rrFrame, h.rrVal0, h.rrVal1]

/-- The invariant of the RR is one of the RR's registers, the value slots and the polarity. -/
theorem rrInv_of_agree {s u : State} (h : RrAgree s u) (hp : u.params = s.params) (hi : RrInv s) : RrInv u where
  stateDefined := by simpa only [h.rrState] using hi.stateDefined
  slotOrder := by simpa only [h.rrVidx, h.rrLast] using hi.slotOrder
  loopPlace := by simpa only [h.rrLoop, h.rrState] using hi.loopPlace
  gapAtLast := by simpa only [h.rrState, h.rrVidx, h.rrLast, h.rrLoop] using hi.gapAtLast
  frameClear := by simpa only [h.rrState, h.rrFrame] using hi.frameClear
  timerClear := by simpa only [h.rrState, h.rrTimer] using hi.timerClear
  display := by rw [expectedOut_of_agree h hp, ← hi.display, h.out]

/-- In an idle RR the display is blank and every register of a display but the slot numbers is clear (R149). -/
theorem rrInv_of_idle {s : State} (hs : s.rrState = .idle) (horder : s.rrVidx = 1#1 → s.rrLast = 1#1)
    (hloop : s.rrLoop = false) (hframe : s.rrFrame = 0#3) (htimer : s.rrTimer = 0#64)
    (hout : s.out = idlePattern s.params) : RrInv s where
  stateDefined := by rw [hs]; rfl
  slotOrder := horder
  loopPlace hl := by rw [hloop] at hl; cases hl
  gapAtLast hg := by rw [hs] at hg; cases hg
  frameClear _ := hframe
  timerClear _ := htimer
  display := by simp only [expectedOut, hs, hout]

/-- Outside a display RR_LOOP is 0 (R31). -/
theorem RrInv.not_looping {s : State} (hi : RrInv s)
    (hs : ¬ (s.rrState = .frame ∨ s.rrState = .pause ∨ s.rrState = .gap)) : s.rrLoop = false := by
  cases hl : s.rrLoop with
  | false => rfl
  | true => exact absurd (hi.loopPlace hl) hs

/-- The entry of a frame shows the slot's byte of that frame (R141); whatever ran before, only the order of the slots is asked for. -/
theorem enterFrame_rrInv {s0 s : State} {slot : BitVec 1} (n : BitVec 3) (hp : s.params = s0.params)
    (hv0 : s.rrVal0 = s0.rrVal0) (hv1 : s.rrVal1 = s0.rrVal1) (hslot : s.rrVidx = slot)
    (horder : s.rrVidx = 1#1 → s.rrLast = 1#1) : RrInv (enterFrame s0 slot n s) where
  stateDefined := rfl
  slotOrder := horder
  loopPlace _ := .inl rfl
  gapAtLast := nofun
  frameClear hf := absurd rfl hf
  timerClear := nofun
  display := by simp [expectedOut, slotValue, hp, hv0, hv1, hslot]

theorem resetCycle_rrInv (s : State) : RrInv (resetCycle s) :=
  rrInv_of_idle rfl nofun rfl rfl rfl rfl

/-! ### The host access -/

/-- A command that an idle RR accepts leads to a state that meets the invariant (R140 to R144, R163). -/
theorem rrAccepted_rrInv {c : Cmd} {s : State} (hc : isRrCommand c = true) (hs : s.rrState = .idle) (hi : RrInv s) :
    RrInv (rrAccepted c s) := by
  have hloop : s.rrLoop = false := hi.not_looping (by simp [hs])
  have hframe : s.rrFrame = 0#3 := hi.frameClear (by simp [hs])
  cases c with
  | rrIdle => exact rrInv_of_idle hs hi.slotOrder hloop hframe (hi.timerClear (.inl hs)) rfl
  | rrShow slot => exact enterFrame_rrInv 7#3 rfl rfl rfl rfl id
  | rrSeq cnt loop => exact enterFrame_rrInv 7#3 rfl rfl rfl rfl nofun
  | rrDone =>
    constructor
    case stateDefined => rfl
    case slotOrder => exact hi.slotOrder
    case loopPlace => simp [rrAccepted, hloop]
    case gapAtLast => exact nofun
    case frameClear => exact fun _ => hframe
    case timerClear => exact nofun
    case display => rfl
  | nop | wcrSample | clrStatus | illegal => cases hc

/-- A host access leaves an RR that is not idle (R175, R177). -/
theorem access_rrAgree {s u : State} (hb : s.rrState ≠ .idle) (h : AccessMakes s u) : RrAgree s u := by
  obtain ⟨hsame, hv0, hv1⟩ := access_rr_busy hb h
  exact ⟨hsame.rrState.symm, hsame.rrFrame.symm, hsame.rrVidx.symm, hsame.rrLast.symm, hsame.rrLoop.symm,
    hsame.rrTimer.symm, hv0.symm, hv1.symm, hsame.out.symm⟩

/-- A host access leaves the RR, writes a value slot of an idle RR, or is a command an idle RR accepts (R175, R177). -/
theorem access_rrInv {s u : State} (h : AccessMakes s u) (hi : RrInv s) : RrInv u := by
  obtain ⟨hp, _⟩ := access_env h
  by_cases hs : s.rrState = .idle
  · rcases h with ⟨_, rfl⟩ | ⟨i, _, hx⟩
    · exact rrInv_of_agree (s := s) ⟨rfl, rfl, rfl, rfl, rfl, rfl, rfl, rfl, rfl⟩ hp hi
    · rcases exec_rr hx with ⟨hsame, _⟩ | ⟨_, c, hc, _, rfl⟩
      · refine rrInv_of_idle (hsame.rrState.trans hs) ?_ ?_ ?_ ?_ ?_
        · simpa only [hsame.rrVidx, hsame.rrLast] using hi.slotOrder
        · exact hsame.rrLoop.trans (hi.not_looping (by simp [hs]))
        · exact hsame.rrFrame.trans (hi.frameClear (by simp [hs]))
        · exact hsame.rrTimer.trans (hi.timerClear (.inl hs))
        · rw [hsame.out, hp, hi.display]
          simp only [expectedOut, hs]
      · exact rrAccepted_rrInv hc hs hi
  · exact rrInv_of_agree (access_rrAgree hs h) hp hi

/-! ### The RR's step -/

section Steps

variable {s0 s : State}

theorem not_idle_of_rrHolds (hh : rrHolds s.rrState = true) : s.rrState ≠ .idle := by
  intro hs
  rw [hs] at hh
  cases hh

theorem not_halted_of_rrHolds (hh : rrHolds s.rrState = true) : s.rrState ≠ .halted := by
  intro hs
  rw [hs] at hh
  cases hh

/-- While the timer runs nothing else of the RR changes (R139). -/
theorem timerTick_rrInv (hi : RrInv s) (hs : rrHolds s.rrState = true) : RrInv (timerTick s0 s) where
  stateDefined := hi.stateDefined
  slotOrder := hi.slotOrder
  loopPlace := hi.loopPlace
  gapAtLast := hi.gapAtLast
  frameClear := hi.frameClear
  timerClear hs' := absurd hs' (not_or.mpr ⟨not_idle_of_rrHolds hs, not_halted_of_rrHolds hs⟩)
  display := hi.display

/-- The pause keeps showing frame 0 (R147). -/
theorem exitFrame_rrInv (ha : RrAgree s0 s) (hp : s.params = s0.params) (hi : RrInv s) (hs : s.rrState = .frame) :
    RrInv (exitFrame s0 s) := by
  unfold exitFrame
  split
  · exact enterFrame_rrInv _ hp ha.rrVal0.symm ha.rrVal1.symm ha.rrVidx.symm hi.slotOrder
  · next hlast =>
    have hframe : s.rrFrame = 0#3 := by
      rw [← ha.rrFrame]
      bv_omega
    constructor
    case stateDefined => rfl
    case slotOrder => exact hi.slotOrder
    case loopPlace => exact fun _ => .inr (.inl rfl)
    case gapAtLast => exact nofun
    case frameClear => exact fun _ => hframe
    case timerClear => exact nofun
    case display =>
      rw [hi.display]
      simp only [expectedOut, slotValue, hs, hframe]

/-- After the last slot of a display without loop the RR is idle, otherwise in a gap; both are blank (R148, R149). -/
theorem exitPause_rrInv (ha : RrAgree s0 s) (hp : s.params = s0.params) (hi : RrInv s) (hs : s.rrState = .pause)
    (ht : s.rrTimer = 0#64) : RrInv (exitPause s0 s) := by
  have hframe : s.rrFrame = 0#3 := hi.frameClear (by simp [hs])
  have hblank : idlePattern s0.params = idlePattern s.params := by rw [hp]
  unfold exitPause endOfValue
  split
  · next hend =>
    obtain ⟨_, hloop⟩ := hend
    exact rrInv_of_idle rfl hi.slotOrder (ha.rrLoop.symm.trans hloop) hframe ht hblank
  · next hmore =>
    rw [ha.rrVidx, ha.rrLast, ha.rrLoop, not_and, Bool.not_eq_false] at hmore
    constructor
    case stateDefined => rfl
    case slotOrder => exact hi.slotOrder
    case loopPlace => exact fun _ => .inr (.inr rfl)
    case gapAtLast => exact fun _ => hmore
    case frameClear => exact fun _ => hframe
    case timerClear => exact nofun
    case display => exact hblank

/-- The slot after a gap does not pass the last one (R150). -/
theorem nextSlot_le_last (ha : RrAgree s0 s) (hi : RrInv s) (hn : nextSlot s0 = 1#1) : s.rrLast = 1#1 := by
  unfold nextSlot at hn
  split at hn
  · cases hn
  · next hne =>
    rw [ha.rrVidx, ha.rrLast] at hne
    by_contra hlast
    have hvidx : s.rrVidx ≠ 1#1 := fun hv => hlast (hi.slotOrder hv)
    bv_omega

theorem exitGap_rrInv (ha : RrAgree s0 s) (hp : s.params = s0.params) (hi : RrInv s) : RrInv (exitGap s0 s) :=
  enterFrame_rrInv 7#3 hp ha.rrVal0.symm ha.rrVal1.symm rfl (show nextSlot s0 = 1#1 → s.rrLast = 1#1 from
    nextSlot_le_last ha hi)

/-- The halted RR goes on showing the done pattern (R165, R168). -/
theorem exitDoneWait_rrInv (hi : RrInv s) (hs : s.rrState = .doneWait) (ht : s.rrTimer = 0#64) :
    RrInv (exitDoneWait s0 s) where
  stateDefined := rfl
  slotOrder := hi.slotOrder
  loopPlace hl := absurd (hi.loopPlace hl) (by simp [hs])
  gapAtLast := nofun
  frameClear _ := hi.frameClear (by simp [hs])
  timerClear _ := ht
  display := by
    have hout := hi.display
    simp only [expectedOut, hs] at hout
    exact hout

theorem rrExit_rrInv (ha : RrAgree s0 s) (hp : s.params = s0.params) (hi : RrInv s) (ht : s0.rrTimer = 0#64) :
    RrInv (rrExit s0 s) := by
  have htimer : s.rrTimer = 0#64 := ha.rrTimer.symm.trans ht
  unfold rrExit
  cases hs : s0.rrState with
  | frame => exact exitFrame_rrInv ha hp hi (ha.rrState.symm.trans hs)
  | pause => exact exitPause_rrInv ha hp hi (ha.rrState.symm.trans hs) htimer
  | gap => exact exitGap_rrInv ha hp hi
  | doneWait => exact exitDoneWait_rrInv hi (ha.rrState.symm.trans hs) htimer
  | idle | halted | undef6 | undef7 => exact hi

/-- The RR's step of a cycle keeps the invariant, the host access having left an RR with a hold as it was. -/
theorem rrStep_rrInv (hi : RrInv s) (hp : s.params = s0.params) (ha : s0.rrState ≠ .idle → RrAgree s0 s) :
    RrInv (rrStep s0 s) := by
  rcases rrStep_cases s0 s with ⟨_, h⟩ | ⟨hh, _, h⟩ | ⟨hh, ht, h⟩ <;> rw [h]
  · exact hi
  · have hagree := ha (not_idle_of_rrHolds hh)
    exact timerTick_rrInv hi (hagree.rrState ▸ hh)
  · exact rrExit_rrInv (ha (not_idle_of_rrHolds hh)) hp hi ht

end Steps

/-- The WCR's step leaves the RR (R134). -/
theorem wcrStep_rrAgree (s0 s : State) : RrAgree s (wcrStep s0 s) := by
  constructor <;> simp

/-- The end of a cycle adds nothing to the units' own steps. -/
theorem finishCycle_rrAgree (s0 s : State) : RrAgree (rrStep s0 (wcrStep s0 s)) (finishCycle s0 s) := by
  constructor <;> simp

end Sys2Proof.Machine
end

section
/-!
SUPPORT. The sticky flags (R35, R36): what issuing a command and executing a fetched access do to them, each said once, with the fact that a
command's own row is never fetched, only the write of its word to CMD.
-/

namespace Sys2Proof.Machine

/-! ### What is fetched -/

theorem readAt_ne_instrOfCmd (n : BitVec 4) (c : Cmd) : readAt n ≠ instrOfCmd c := by
  unfold readAt
  split <;> cases c <;> exact nofun

theorem writeAt_ne_instrOfCmd (n : BitVec 4) (d : Word) (c : Cmd) : writeAt n d ≠ instrOfCmd c := by
  unfold writeAt
  split <;> cases c <;> exact nofun

/-- No access decodes to a command's own row: a command comes as the write of its word to CMD (R63, R76). -/
theorem fetch_ne_instrOfCmd {s : State} {i : Instr} (hf : fetch s = some i) (c : Cmd) : i ≠ instrOfCmd c := by
  obtain ⟨a, _, rfl⟩ := Option.map_eq_some_iff.mp hf
  unfold decodeAccess decodeBus
  split
  case h_4 =>
    split
    case h_4 =>
      split
      · exact writeAt_ne_instrOfCmd _ _ c
      · exact readAt_ne_instrOfCmd _ c
    all_goals cases c <;> exact nofun
  all_goals cases c <;> exact nofun

theorem issuedCommand_of_write {s : State} {w : Word} (hf : fetch s = some (.wrCmd w)) :
    issuedCommand s = some (decodeCommand w) := by
  simp only [issuedCommand, hf]

theorem issuedCommand_of_not_write {s : State} (hf : ∀ w, fetch s ≠ some (.wrCmd w)) : issuedCommand s = none := by
  unfold issuedCommand
  split
  · next w hw => exact absurd hw (hf w)
  · rfl

/-! ### What sets and clears the flags -/

/-- The command finds its unit not idle, and so is dropped (R174). -/
def commandDropped (c : Cmd) (s : State) : Prop :=
  (s.rrState ≠ .idle ∧ isRrCommand c = true) ∨ (s.wcrState ≠ .idle ∧ ∃ k, c = .wcrSample k)

/-- A command sets ERR_ILLEGAL exactly when it is an illegal word and clears it exactly when it is CLR_STATUS (R36, R172, R173). -/
theorem issue_errIllegal {c : Cmd} {s u : State} (h : issue c s = .next u) :
    u.errIllegal = true ↔ (∃ w, c = .illegal w) ∨ (s.errIllegal = true ∧ c ≠ .clrStatus) := by
  cases c with
  | nop | clrStatus | illegal => cases h; simp [setErrIllegal, clearErrors]
  | wcrSample | rrIdle | rrShow | rrSeq | rrDone =>
    simp only [issue, execWcrSample, execRrIdle, execRrShow, execRrSeq, execRrDone] at h
    split at h <;> cases h <;> simp

/-- A command sets ERR_BUSY exactly when it is dropped and clears it exactly when it is CLR_STATUS (R35, R172, R174). -/
theorem issue_errBusy {c : Cmd} {s u : State} (h : issue c s = .next u) :
    u.errBusy = true ↔ commandDropped c s ∨ (s.errBusy = true ∧ c ≠ .clrStatus) := by
  cases c with
  | nop | clrStatus | illegal => cases h; simp [commandDropped, isRrCommand]
  | wcrSample | rrIdle | rrShow | rrSeq | rrDone =>
    simp only [issue, execWcrSample, execRrIdle, execRrShow, execRrSeq, execRrDone] at h
    split at h <;> next hidle => cases h; simp [commandDropped, isRrCommand, hidle]

/-- A write of a value slot leaves ERR_ILLEGAL, and sets ERR_BUSY exactly when the RR is not idle (R175). -/
theorem writeSlot_flags {f : State → State} {s u : State}
    (hf : ∀ x, (f x).errIllegal = x.errIllegal ∧ (f x).errBusy = x.errBusy)
    (h : writeSlot f s = .next u) :
    u.errIllegal = s.errIllegal ∧ (u.errBusy = true ↔ s.rrState ≠ .idle ∨ s.errBusy = true) := by
  obtain ⟨hill, hbusy⟩ := hf (respondWrite s)
  unfold writeSlot at h
  split at h <;> next hidle => cases h; simp [hidle, hill, hbusy]

/-- Every write of a value slot is an update that leaves the flags, taken or dropped by `writeSlot` (R98 to R104). -/
theorem exec_of_slotWrite {i : Instr} (hi : isSlotWrite i = true) (s : State) :
    ∃ f : State → State, exec i s = writeSlot f s
      ∧ ∀ x, (f x).errIllegal = x.errIllegal ∧ (f x).errBusy = x.errBusy := by
  cases i with
  | wrRrVal0Lo d => exact ⟨fun x => { x with rrVal0 := withLoWord s.rrVal0 d }, rfl, fun _ => ⟨rfl, rfl⟩⟩
  | wrRrVal0Hi d => exact ⟨fun x => { x with rrVal0 := withHiWord s.rrVal0 d }, rfl, fun _ => ⟨rfl, rfl⟩⟩
  | wrRrVal1Lo d => exact ⟨fun x => { x with rrVal1 := withLoWord s.rrVal1 d }, rfl, fun _ => ⟨rfl, rfl⟩⟩
  | wrRrVal1Hi d => exact ⟨fun x => { x with rrVal1 := withHiWord s.rrVal1 d }, rfl, fun _ => ⟨rfl, rfl⟩⟩
  | _ => cases hi

/-- What a fetched access does to the flags: what the command it issues does, or nothing but the ERR_BUSY of a dropped value write. -/
theorem exec_fetched_flags {s u : State} {i : Instr} (hf : fetch s = some i) (hx : exec i s = .next u) :
    (∃ c, issuedCommand s = some c ∧ isSlotWrite i = false ∧ issue c s = .next u)
    ∨ (issuedCommand s = none ∧ u.errIllegal = s.errIllegal
      ∧ (u.errBusy = true ↔ (s.rrState ≠ .idle ∧ isSlotWrite i = true) ∨ s.errBusy = true)) := by
  by_cases hslot : isSlotWrite i = true
  · have hc : issuedCommand s = none := issuedCommand_of_not_write fun w hw => by
      cases hf.symm.trans hw
      cases hslot
    obtain ⟨f, hw, hflags⟩ := exec_of_slotWrite hslot s
    simpa [hc, hslot] using writeSlot_flags hflags (hw.symm.trans hx)
  · have hnot : isSlotWrite i = false := by simpa using hslot
    by_cases hwrite : ∃ w, i = .wrCmd w
    · obtain ⟨w, rfl⟩ := hwrite
      exact .inl ⟨_, issuedCommand_of_write hf, hnot, hx⟩
    · have hc : issuedCommand s = none := issuedCommand_of_not_write fun w hw =>
        hwrite ⟨w, Option.some.inj (hf.symm.trans hw)⟩
      rcases exec_cases hx with ⟨c, hrow | ⟨w, hw, _⟩, _⟩ | ⟨o, _, _, rfl⟩ | ⟨hs, _⟩ | ⟨hs, _⟩
      · exact absurd hrow (fetch_ne_instrOfCmd hf c)
      · exact absurd ⟨w, hw⟩ hwrite
      · exact .inr ⟨hc, rfl, by simp [hnot]⟩
      · exact absurd hs hslot
      · exact absurd hs hslot

/-- The event BUSY_REJECT of a cycle whose access issues a command: the command is dropped. -/
theorem busyReject_of_command {s : State} {i : Instr} {c : Cmd} (hf : fetch s = some i) (hc : issuedCommand s = some c)
    (hi : isSlotWrite i = false) : busyReject s ↔ commandDropped c s := by
  simp [busyReject, commandDropped, hf, hc, hi]

/-- The event BUSY_REJECT of a cycle whose access issues no command: a value write finds the RR not idle. -/
theorem busyReject_of_no_command {s : State} {i : Instr} (hf : fetch s = some i) (hc : issuedCommand s = none) :
    busyReject s ↔ s.rrState ≠ .idle ∧ isSlotWrite i = true := by
  simp [busyReject, hf, hc]

/-- The flags after the host access of a cycle, or after none. -/
theorem access_flags {s u : State} (h : AccessMakes s u) :
    (u.errIllegal = true ↔
      (∃ w, issuedCommand s = some (.illegal w)) ∨ (s.errIllegal = true ∧ issuedCommand s ≠ some .clrStatus))
    ∧ (u.errBusy = true ↔ busyReject s ∨ (s.errBusy = true ∧ issuedCommand s ≠ some .clrStatus)) := by
  rcases h with ⟨hf, rfl⟩ | ⟨i, hf, hx⟩
  · have hc : issuedCommand s = none := issuedCommand_of_not_write (by simp [hf])
    simp [busyReject, hf, hc]
  · rcases exec_fetched_flags hf hx with ⟨c, hc, hi, hu⟩ | ⟨hc, hill, hbusy⟩
    · rw [busyReject_of_command hf hc hi, hc, issue_errIllegal hu, issue_errBusy hu]
      simp
    · rw [busyReject_of_no_command hf hc, hc, hill, hbusy]
      simp

end Sys2Proof.Machine
end

section
/-!
SUPPORT. The counters (R19): the draw of a cycle is capped at A_MAX, and every step, in reset or not, adds it modulo 2^64.
-/

namespace Sys2Proof.Machine

theorem toNat_capped (draw cap : Wide) : (if draw ≤ cap then draw else cap).toNat = min draw.toNat cap.toNat := by
  split
  · next h => rw [min_eq_left (BitVec.le_def.mp h)]
  · next h => rw [min_eq_right (BitVec.lt_def.mp (BitVec.not_le.mp h)).le]

theorem counterAdvance_cycle_toNat (s : State) :
    (counterAdvance s .cycle).toNat = min s.pins.drawCycle.toNat s.params.aMax.toNat :=
  toNat_capped _ _

theorem counterAdvance_instret_toNat (s : State) :
    (counterAdvance s .instret).toNat = min s.pins.drawInstret.toNat s.params.aMax.toNat :=
  toNat_capped _ _

theorem counterAdvance_le_aMax (s : State) (k : Kind) : (counterAdvance s k).toNat ≤ s.params.aMax.toNat := by
  cases k with
  | cycle => exact (counterAdvance_cycle_toNat s).trans_le (min_le_right _ _)
  | instret => exact (counterAdvance_instret_toNat s).trans_le (min_le_right _ _)

/-- Every step, in reset or not, adds to each counter its advance of the cycle. -/
theorem step_counterValue {s t : State} (h : step s = .next t) (k : Kind) :
    counterValue t k = counterValue s k + counterAdvance s k := by
  obtain ⟨_, _, ⟨_, rfl⟩ | ⟨_, u, rfl, _⟩⟩ := step_cases h
  · cases k <;> rfl
  · cases k <;> simp [counterValue]

end Sys2Proof.Machine
end

section
/-!
CERTIFICATES. The statements of 10_state.md: every step keeps the invariants of the WCR and of the RR and the reset state meets them (R21 to
R31, R40), the counters advance by bounded draws (R19), the sticky flags have no other writers (R35, R36), undefined encodings are refused
(R21, R28), and a reset cycle gives every register its reset value (R40).
-/

namespace Sys2Proof.Machine

/-- Settles O16: the reset cycle, or the host access followed by the WCR's own step, keeps the invariant. -/
theorem stepKeepsTheWcrInvariant : Obligations.StepKeepsTheWcrInvariant := by
  intro s t hi h
  obtain ⟨_, _, ⟨_, rfl⟩ | ⟨_, u, rfl, hu⟩⟩ := step_cases h
  · exact resetCycle_wcrInv s
  · have hstep : WcrInv (wcrStep s u) := wcrStep_wcrInv (access_wcrInv hu hi) (fun hb => access_wcr_busy hb hu)
    exact wcrInv_of_same (finishCycle_wcrSame s u) hstep

/-- Settles O17: the reset cycle, or the host access followed by the RR's own step, keeps the invariant. -/
theorem stepKeepsTheRrInvariant : Obligations.StepKeepsTheRrInvariant := by
  intro s t hi h
  obtain ⟨_, _, ⟨_, rfl⟩ | ⟨_, u, rfl, hu⟩⟩ := step_cases h
  · exact resetCycle_rrInv s
  · obtain ⟨hparams, _⟩ := access_env hu
    have hacc : RrInv (wcrStep s u) := rrInv_of_agree (wcrStep_rrAgree s u) (by simp) (access_rrInv hu hi)
    have hstep : RrInv (rrStep s (wcrStep s u)) :=
      rrStep_rrInv hacc (by simp [hparams]) fun hb => (access_rrAgree hb hu).trans (wcrStep_rrAgree s u)
    exact rrInv_of_agree (finishCycle_rrAgree s u) (by simp) hstep

/-- Settles O10: the parameters stay, and each counter adds its draw of the cycle, capped at A_MAX. -/
theorem countersAdvanceByBoundedDraws : Obligations.CountersAdvanceByBoundedDraws := by
  intro s t h
  obtain ⟨_, _, hparams⟩ := step_environment h
  refine ⟨hparams, fun k => ⟨counterAdvance_le_aMax s k, ?_⟩, counterAdvance_cycle_toNat s, counterAdvance_instret_toNat s⟩
  rw [step_counterValue h k, BitVec.toNat_add]

/-- Settles O29: the end of a cycle leaves the flags as the host access made them, and the reset cycle clears them. -/
theorem stickyFlagsAreWrittenOnlyByIssue : Obligations.StickyFlagsAreWrittenOnlyByIssue := by
  intro s t h
  obtain ⟨_, _, ⟨hr, rfl⟩ | ⟨hr, u, rfl, hu⟩⟩ := step_cases h
  · exact ⟨fun hlow => absurd (hr.symm.trans hlow) nofun, fun _ => ⟨rfl, rfl⟩⟩
  · refine ⟨fun _ => ?_, fun hhigh => absurd (hr.symm.trans hhigh) nofun⟩
    rw [finishCycle_errIllegal, finishCycle_errBusy]
    exact access_flags hu

/-- Settles O8, by the encodings that the two refusals of a step name. -/
theorem undefinedEncodingsAreRefused : Obligations.UndefinedEncodingsAreRefused := by
  intro s
  refine ⟨fun hundef => step_wcr_undefined ?_, fun hw hundef => step_rr_undefined hw ?_⟩
  · rcases hundef with h | h | h <;> rw [h] <;> rfl
  · rcases hundef with h | h <;> rw [h] <;> rfl

/-- Settles O11: the step is the reset cycle, which writes the table of R40. -/
theorem resetCycleGivesResetValues : Obligations.ResetCycleGivesResetValues := by
  intro s hd hr
  have hout : idlePattern s.params = if s.params.activeLow then 0xFF#8 else 0x00#8 := rfl
  exact ⟨resetCycle s, step_reset hr hd, rfl, rfl, rfl, rfl, rfl, rfl, rfl, rfl, rfl, rfl, rfl, rfl, rfl, rfl, rfl, rfl,
    rfl, hout, rfl, rfl, rfl, rfl⟩

/-- Settles O15: both units are idle and clear, and the trace holds the one write of the reset, of an earlier cycle (R202). -/
theorem resetStateMeetsTheInvariants : Obligations.ResetStateMeetsTheInvariants where
  wcr := wcrInv_of_no_sample rfl rfl rfl rfl
  rr := rrInv_of_idle rfl nofun rfl rfl rfl rfl
  events := {
    startsIdle := rfl
    lastIsOut := fun _ => rfl
    eventsPast := fun e he => by
      obtain rfl := List.mem_singleton.mp he
      exact Nat.zero_lt_one }

end Sys2Proof.Machine
end

section
/-!
SUPPORT. Reads (R52, R81 to R113): what a read does, said once, and what a cycle makes of the bus response. The units' steps neither read nor
write the access and its response, so a cycle carries them through to the record of its access alone.
-/

namespace Sys2Proof.Machine

/-! ### What a read does -/

/-- A defined read answers some word and touches no register (R81 to R111). -/
theorem exec_readAt (n : BitVec 4) (s : State) : ∃ d, exec (readAt n) s = .next (respondRead d s) := by
  unfold readAt
  split <;> exact ⟨_, rfl⟩

/-- A read is answered with a word or, undefined, with the bus error, and touches no register (R52, R113). -/
theorem exec_read_access {a : Access} (ha : a.we = false) (s : State) :
    (∃ d, exec (decodeAccess a) s = .next (respondRead d s)) ∨ exec (decodeAccess a) s = .next (busError s) := by
  unfold decodeAccess decodeBus
  split
  case h_4 =>
    split
    case h_4 =>
      rw [ha]
      exact .inl (exec_readAt _ s)
    all_goals exact .inr rfl
  all_goals exact .inr rfl

/-! ### A cycle with and without its access -/

/-- The cycle `s` with its host access taken away. -/
def withoutAccess (s : State) : State := { s with pins := { s.pins with bus := none } }

/-- `s` with this access on the bus and this response to it. -/
def withBus (b : Option Access) (rdata : Option Word) (err : Bool) (s : State) : State :=
  { s with pins := { s.pins with bus := b }, outputs := { s.outputs with busRdata := rdata, busErr := err } }

/-- A read makes of the state what a cycle without its access does, but for the bus (R52). -/
theorem exec_read_withBus {a : Access} (ha : a.we = false) (s : State) :
    ∃ rdata err, exec (decodeAccess a) s = .next (withBus s.pins.bus rdata err (quiet (withoutAccess s))) := by
  rcases exec_read_access ha s with ⟨d, h⟩ | h
  · exact ⟨some d, false, h⟩
  · exact ⟨some 0#32, true, h⟩

section Steps

variable (b : Option Access) (rdata : Option Word) (err : Bool) (s0 s : State)

theorem wcrStep_withBus : wcrStep s0 (withBus b rdata err s) = withBus b rdata err (wcrStep s0 s) := by
  unfold wcrStep
  cases s0.wcrState with
  | idle | rdH1 | rdL | rdL2 | undef5 | undef6 | undef7 => rfl
  | rdH2 =>
    simp only [stepRdH2]
    split <;> rfl

theorem rrExit_withBus : rrExit s0 (withBus b rdata err s) = withBus b rdata err (rrExit s0 s) := by
  unfold rrExit
  cases s0.rrState with
  | frame =>
    simp only [exitFrame]
    split <;> rfl
  | pause =>
    simp only [exitPause, endOfValue]
    split <;> rfl
  | gap | doneWait | idle | halted | undef6 | undef7 => rfl

theorem rrStep_withBus : rrStep s0 (withBus b rdata err s) = withBus b rdata err (rrStep s0 s) := by
  unfold rrStep
  split
  · split
    · rfl
    · exact rrExit_withBus b rdata err s0 s
  · rfl

/-- The units step from the registers and `clk_hz`: the access of the cycle is not among what they read (R9, R171). -/
theorem unitSteps_withoutAccess : rrStep (withoutAccess s0) (wcrStep (withoutAccess s0) s) = rrStep s0 (wcrStep s0 s) := rfl

/-- The end of a cycle over a state that differs on the bus alone differs in the response and the trace alone. -/
theorem finishCycle_withBus :
    finishCycle s0 (withBus b rdata err s) =
      { finishCycle (withoutAccess s0) s with
        trace := (finishCycle s0 (withBus b rdata err s)).trace
        outputs := { (finishCycle (withoutAccess s0) s).outputs with busRdata := rdata, busErr := err } } := by
  unfold finishCycle
  rw [wcrStep_withBus, rrStep_withBus, unitSteps_withoutAccess]
  rfl

end Steps

/-- A step without reset and without an access ends the cycle over the state as it stands (R114). -/
theorem step_withoutAccess {s : State} (hr : s.pins.rst = false) (hd : fsmDefined s = true) :
    step (withoutAccess s) = .next (finishCycle (withoutAccess s) (quiet (withoutAccess s))) := by
  obtain ⟨u, hu, ⟨_, rfl⟩ | ⟨i, hi, _⟩⟩ := step_next (s := withoutAccess s) hr hd
  · exact hu
  · cases hi

/-- A step without reset that reads: the step of the cycle without the access, but for the response and the trace (R52). -/
theorem step_read {s t : State} {a : Access} (hr : s.pins.rst = false) (hb : s.pins.bus = some a) (ha : a.we = false)
    (h : step s = .next t) :
    ∃ u, step (withoutAccess s) = .next u
      ∧ t = { u with
          trace := t.trace
          outputs := { u.outputs with busRdata := t.outputs.busRdata, busErr := t.outputs.busErr } } := by
  obtain ⟨hw, hx, _⟩ := step_cases h
  have hd : fsmDefined s = true := fsmDefined_iff.mpr ⟨hw, hx⟩
  obtain ⟨v, hv, hs⟩ := step_runs_access hr hd hb
  obtain ⟨rdata, err, hread⟩ := exec_read_withBus ha s
  cases hread.symm.trans hv
  cases hs.symm.trans h
  refine ⟨_, step_withoutAccess hr hd, ?_⟩
  have heq := finishCycle_withBus s.pins.bus rdata err s (quiet (withoutAccess s))
  have hrdata := congrArg (·.outputs.busRdata) heq
  have herr := congrArg (·.outputs.busErr) heq
  rw [hrdata, herr]
  exact heq

end Sys2Proof.Machine
end

section
/-!
SUPPORT. The four value words (R33, R98 to R104): the word that offset 4·n of the window shows, what its read answers, and what its write on
an idle RR leaves there.
-/

namespace Sys2Proof.Machine

/-- The value word at word `n` of the window, for `n` from 8 to 11 (R33, R39). -/
def valueWord (s : State) (n : BitVec 4) : Word :=
  if n = 8#4 then loWord s.rrVal0
  else if n = 9#4 then hiWord s.rrVal0
  else if n = 10#4 then loWord s.rrVal1
  else hiWord s.rrVal1

@[simp] theorem loWord_withLoWord (x : Wide) (d : Word) : loWord (withLoWord x d) = d :=
  BitVec.extractLsb'_append_eq_right

@[simp] theorem hiWord_withHiWord (x : Wide) (d : Word) : hiWord (withHiWord x d) = d :=
  BitVec.extractLsb'_append_eq_left

section ValueWord

variable {n : BitVec 4} (hn : n ∈ [8#4, 9#4, 10#4, 11#4])
include hn

theorem exec_readAt_valueWord (s : State) : exec (readAt n) s = .next (respondRead (valueWord s n) s) := by
  simp only [List.mem_cons, List.not_mem_nil, or_false] at hn
  rcases hn with rfl | rfl | rfl | rfl <;> rfl

/-- A write of a value word on an idle RR is taken, and leaves the word written (R98 to R104). -/
theorem exec_writeAt_valueWord {s : State} (hidle : s.rrState = .idle) (d : Word) :
    ∃ u, exec (writeAt n d) s = .next u ∧ valueWord u n = d := by
  simp only [List.mem_cons, List.not_mem_nil, or_false] at hn
  rcases hn with rfl | rfl | rfl | rfl
  · exact ⟨_, if_pos hidle, loWord_withLoWord s.rrVal0 d⟩
  · exact ⟨_, if_pos hidle, hiWord_withHiWord s.rrVal0 d⟩
  · exact ⟨_, if_pos hidle, loWord_withLoWord s.rrVal1 d⟩
  · exact ⟨_, if_pos hidle, hiWord_withHiWord s.rrVal1 d⟩

end ValueWord

/-- The end of a cycle leaves the value words: the sequencers do not write them (R33). -/
@[simp] theorem finishCycle_valueWord (s0 s : State) (n : BitVec 4) : valueWord (finishCycle s0 s) n = valueWord s n := by
  simp [valueWord]

end Sys2Proof.Machine
end

section
/-!
CERTIFICATES. The statements of 20_memory.md: a read has no side effect (R52), and a value word written while the RR is idle is what the next
cycle reads (R57).
-/

namespace Sys2Proof.Machine

/-- Settles O38: the two cycles end in states that differ on the bus alone, so they add the same device write and counter read to the trace,
and only the one with the access records it. -/
theorem readsHaveNoSideEffect : Obligations.ReadsHaveNoSideEffect := by
  intro s t a hr hb ha h
  obtain ⟨u, hu, heq⟩ := step_read hr hb ha h
  have hout : t.out = u.out := congrArg (·.out) heq
  have hwe : t.outputs.outWe = u.outputs.outWe := congrArg (·.outputs.outWe) heq
  have hcnt : t.outputs.cnt = u.outputs.cnt := congrArg (·.outputs.cnt) heq
  refine ⟨u, hu, heq, ?_, ?_, ?_⟩
  · rw [step_devWrites h, step_devWrites hu, hout, hwe]
    rfl
  · rw [step_counterReads h, step_counterReads hu, hcnt]
    rfl
  · simp [step_busAccesses h, step_busAccesses hu, hb, withoutAccess]

/-- Settles O40: the write leaves the word, the end of the cycle keeps it, and the read of the next cycle answers it. -/
theorem valueWordWrittenIsReadNextCycle : Obligations.ValueWordWrittenIsReadNextCycle := by
  intro s d n hn hr hd hidle hwrite hnext ⟨e, hread⟩
  obtain ⟨u, hu, hs⟩ := step_runs_access hr hd hwrite
  obtain ⟨u', hu', hword⟩ := exec_writeAt_valueWord hn hidle d
  rw [decodeAccess, decodeBus_aligned] at hu
  cases hu'.symm.trans hu
  obtain ⟨v, hv, hs'⟩ := step_runs_access (s := finishCycle s u) (by simpa) (step_defined hs) (by simpa)
  rw [decodeAccess, decodeBus_aligned] at hv
  cases (exec_readAt_valueWord hn (finishCycle s u)).symm.trans hv
  refine ⟨_, (reaches_succ hs).mpr ((reaches_succ hs').mpr (reaches_zero.mpr rfl)), ?_, ?_⟩
  · simp [hword]
  · simp

end Sys2Proof.Machine
end

section
/-!
SUPPORT. The fields of a command word (R64): a word whose reserved bits are 0 is the command word of its OP, A and B, so the words that no
clause of R69 makes illegal are the twelve of R68, each in one row of the table.
-/

namespace Sys2Proof

/-! ### The fields of a word -/

theorem extractLsb'_one_eq_ofBool (w : Word) (i : Nat) : w.extractLsb' i 1 = BitVec.ofBool (w.getLsbD i) := by
  ext j hj
  obtain rfl : j = 0 := by omega
  simp

/-- A word whose reserved bits are 0 is the command word of its fields (R64). -/
theorem eq_commandWord_of_reserved_zero {w : Word} (hhigh : w.extractLsb' 10 22 = 0#22) (hlow : w.extractLsb' 4 4 = 0#4) :
    w = commandWord (w.extractLsb' 0 4) (w.getLsbD 8) (w.getLsbD 9) := by
  have join : ∀ i m n, w.extractLsb' (i + m) n ++ w.extractLsb' i m = w.extractLsb' i (n + m) :=
    fun _ _ _ => BitVec.extractLsb'_append_extractLsb'_eq_extractLsb' rfl
  rw [commandWord, ← hhigh, ← hlow, ← extractLsb'_one_eq_ofBool, ← extractLsb'_one_eq_ofBool,
    join 9 1, join 8 1, join 4 4, join 0 4]
  exact BitVec.extractLsb'_eq_self.symm

/-- The command word of OP, A and B has OP in bits 3:0, B in bit 9 and 0 in the reserved bits (R64). -/
theorem commandWord_fields (op : BitVec 4) (a b : Bool) :
    (commandWord op a b).extractLsb' 0 4 = op ∧ (commandWord op a b).getLsbD 9 = b
      ∧ (commandWord op a b).extractLsb' 4 4 = 0#4 ∧ (commandWord op a b).extractLsb' 10 22 = 0#22 := by
  revert op a b
  decide

/-! ### The legal words -/

/-- The twelve words of R68. -/
def legalWords : List Word :=
  [0x00000000#32, 0x00000001#32, 0x00000101#32, 0x00000002#32, 0x00000003#32, 0x00000103#32, 0x00000004#32,
    0x00000104#32, 0x00000204#32, 0x00000304#32, 0x00000005#32, 0x00000006#32]

/-- The clauses (a) to (e) of R69, as conditions on the word. -/
theorem illegalWord_iff {w : Word} :
    illegalWord w = true ↔
      (7 ≤ (w.extractLsb' 0 4).toNat ∨ w.extractLsb' 4 4 ≠ 0#4 ∨ w.extractLsb' 10 22 ≠ 0#22
        ∨ (w.getLsbD 9 = true ∧ w.extractLsb' 0 4 ≠ 4#4)
        ∨ (w.getLsbD 8 = true ∧ w.extractLsb' 0 4 ∈ [0#4, 2#4, 5#4, 6#4])) := by
  simp [illegalWord, reservedOp, reservedLowBits, reservedHighBits, strayLoopBit, strayOperandBit, or_assoc]

/-- A word that no clause of R69 makes illegal is one of the twelve of R68. -/
theorem mem_legalWords_of_not_illegalWord {w : Word} (h : illegalWord w = false) : w ∈ legalWords := by
  have hfields : ∀ op a b, illegalWord (commandWord op a b) = false → commandWord op a b ∈ legalWords := by decide
  have hclauses := mt illegalWord_iff.mpr (Bool.eq_false_iff.mp h)
  simp only [not_or, not_not] at hclauses
  obtain ⟨_, hlow, hhigh, _⟩ := hclauses
  rw [eq_commandWord_of_reserved_zero hhigh hlow] at h ⊢
  exact hfields _ _ _ h

/-- None of the twelve words of R68 decodes to ILLEGAL. -/
theorem decodeCommand_of_mem_legalWords {w : Word} (h : w ∈ legalWords) : decodeCommand w ≠ .illegal w := by
  have hall : legalWords.Forall fun v => decodeCommand v ≠ .illegal v := by decide
  exact List.forall_iff_forall_mem.mp hall w h

/-- The command decoder answers ILLEGAL exactly by the clauses of R69. -/
theorem decodeCommand_eq_illegal_iff {w : Word} : decodeCommand w = .illegal w ↔ illegalWord w = true := by
  refine ⟨fun h => ?_, decodeCommand_of_illegalWord⟩
  by_contra hlegal
  exact decodeCommand_of_mem_legalWords (mem_legalWords_of_not_illegalWord (Bool.eq_false_iff.mpr hlegal)) h

theorem decodeCommand_ne_illegal_iff {w : Word} : decodeCommand w ≠ .illegal w ↔ w ∈ legalWords := by
  refine ⟨fun h => ?_, decodeCommand_of_mem_legalWords⟩
  exact mem_legalWords_of_not_illegalWord (Bool.eq_false_iff.mpr (mt decodeCommand_eq_illegal_iff.mpr h))

/-! ### The rows of the command table -/

/-- A word that agrees with a word of operation `op` on all but bits 8 and 9 is the command word of `op` and those bits. -/
theorem eq_commandWord_of_both_operands {w : Word} {op : BitVec 4} (h : w &&& 0xFFFFFCFF#32 = commandWord op false false) :
    w = commandWord op (w.getLsbD 8) (w.getLsbD 9) := by
  obtain ⟨hop, _, hlow, hhigh⟩ := commandWord_fields op false false
  have hfield : ∀ i n, w.extractLsb' i n &&& (0xFFFFFCFF#32).extractLsb' i n = (commandWord op false false).extractLsb' i n :=
    fun i n => by rw [← BitVec.extractLsb'_and, h]
  have hwop : w.extractLsb' 0 4 = op := BitVec.and_allOnes.symm.trans ((hfield 0 4).trans hop)
  have hwlow : w.extractLsb' 4 4 = 0#4 := BitVec.and_allOnes.symm.trans ((hfield 4 4).trans hlow)
  have hwhigh : w.extractLsb' 10 22 = 0#22 := BitVec.and_allOnes.symm.trans ((hfield 10 22).trans hhigh)
  rw [← hwop]
  exact eq_commandWord_of_reserved_zero hwhigh hwlow

/-- The command word without operand bits is 0 in bits 8 and 9. -/
theorem commandWord_and_operand_mask (op : BitVec 4) :
    commandWord op false false &&& 0xFFFFFCFF#32 = commandWord op false false := by
  revert op
  decide

/-- A word that agrees with a word of operation `op` on all but bit 8 is the command word of `op` and that bit. -/
theorem eq_commandWord_of_one_operand {w : Word} {op : BitVec 4} (h : w &&& 0xFFFFFEFF#32 = commandWord op false false) :
    w = commandWord op (w.getLsbD 8) false := by
  have hboth : w &&& 0xFFFFFCFF#32 = commandWord op false false :=
    calc w &&& 0xFFFFFCFF#32 = w &&& 0xFFFFFEFF#32 &&& 0xFFFFFCFF#32 := by rw [BitVec.and_assoc]; rfl
      _ = commandWord op false false := by rw [h, commandWord_and_operand_mask]
  have hloop : w.getLsbD 9 = false := by
    obtain ⟨_, hb, _⟩ := commandWord_fields op false false
    rw [← h] at hb
    simpa using hb
  have hw := eq_commandWord_of_both_operands hboth
  rwa [hloop] at hw

/-- A row without operands accepts its one word. -/
theorem eq_of_full_mask {w v : Word} (h : w &&& 0xFFFFFFFF#32 = v) : w = v :=
  BitVec.and_allOnes.symm.trans h

theorem decodeCommand_wcrSample (a : Bool) :
    decodeCommand (commandWord 1#4 a false) = .wcrSample (if a then .instret else .cycle) := by
  cases a <;> rfl

theorem decodeCommand_rrShow (a : Bool) : decodeCommand (commandWord 3#4 a false) = .rrShow (BitVec.ofBool a) := by
  cases a <;> rfl

theorem decodeCommand_rrSeq (a b : Bool) : decodeCommand (commandWord 4#4 a b) = .rrSeq (BitVec.ofBool a) b := by
  cases a <;> cases b <;> rfl

/-- Each of the twelve words of R68 lies in a row. -/
theorem exists_commandRow_of_mem_legalWords {w : Word} (h : w ∈ legalWords) : ∃ r ∈ commandRows, r.accepts w.toNat = true := by
  have hall : legalWords.Forall fun v => ∃ r ∈ commandRows, r.accepts v.toNat = true := by decide
  exact List.forall_iff_forall_mem.mp hall w h

end Sys2Proof
end

section
/-!
SUPPORT. The descriptor rows (R65, R72, R113): each descriptor is made of its fields and lies in the row of the instruction it decodes to, and
no two rows have a descriptor in common.
-/

namespace Sys2Proof

/-- A descriptor is made of its WE, SIZE and OFF (R65). -/
theorem descriptor_fields (desc : BitVec 9) :
    descriptor (desc.getLsbD 8) (desc.extractLsb' 6 2) (desc.extractLsb' 0 6) = desc := by
  revert desc
  decide

theorem twoBits_cases (x : BitVec 2) : x = 0#2 ∨ x = 1#2 ∨ x = 2#2 ∨ x = 3#2 := by
  revert x
  decide

/-- A byte offset is a word of the window and a place in it. -/
theorem offset_fields (off : BitVec 6) : off.extractLsb' 2 4 ++ off.extractLsb' 0 2 = off := by
  revert off
  decide

theorem offset_word (n : BitVec 4) (low : BitVec 2) : (n ++ low).extractLsb' 2 4 = n := by
  revert n low
  decide

theorem offset_place (n : BitVec 4) (low : BitVec 2) : (n ++ low).extractLsb' 0 2 = low := by
  revert n low
  decide

theorem mnemonicOf_writeAt (n : BitVec 4) (d : Word) : mnemonicOf (writeAt n d) = mnemonicOf (writeAt n 0#32) := by
  unfold writeAt
  split <;> rfl

theorem rowAccepts_readAt (n : BitVec 4) :
    Laws.rowAccepts busRows (mnemonicOf (readAt n)) (descriptor false 2#2 (n ++ 0#2)).toNat = true := by
  revert n
  decide

theorem rowAccepts_writeAt (n : BitVec 4) (d : Word) :
    Laws.rowAccepts busRows (mnemonicOf (writeAt n d)) (descriptor true 2#2 (n ++ 0#2)).toNat = true := by
  rw [mnemonicOf_writeAt]
  revert n
  decide

/-- A word access lies in the row of its instruction: one of the 32 defined rows, or one of the three misaligned ones. -/
theorem rowAccepts_wordAccess (we : Bool) (word : BitVec 4) (low : BitVec 2) (d : Word) :
    Laws.rowAccepts busRows (mnemonicOf (decodeBus we 2#2 (word ++ low) d)) (descriptor we 2#2 (word ++ low)).toNat = true := by
  simp only [decodeBus, offset_word, offset_place]
  rcases twoBits_cases low with rfl | rfl | rfl | rfl
  · cases we with
    | false => exact rowAccepts_readAt word
    | true => exact rowAccepts_writeAt word d
  · exact Laws.EncodeMatchesRow.buserrMisaligned1 we word rfl
  · exact Laws.EncodeMatchesRow.buserrMisaligned2 we word rfl
  · exact Laws.EncodeMatchesRow.buserrMisaligned3 we word rfl

/-- Every descriptor lies in a row that carries the mnemonic of its instruction. -/
theorem rowAccepts_decodeBus (we : Bool) (size : BitVec 2) (off : BitVec 6) (d : Word) :
    Laws.rowAccepts busRows (mnemonicOf (decodeBus we size off d)) (descriptor we size off).toNat = true := by
  rcases twoBits_cases size with rfl | rfl | rfl | rfl
  · exact Laws.EncodeMatchesRow.buserrSize0 we off rfl
  · exact Laws.EncodeMatchesRow.buserrSize1 we off rfl
  · rw [← offset_fields off]
    exact rowAccepts_wordAccess we _ _ d
  · exact Laws.EncodeMatchesRow.buserrSize3 we off rfl

/-- Two rows with a word in common agree on the bits that both fix. -/
theorem Row.value_agree_of_accepts {r q : Row} {w : Nat} (hr : r.accepts w = true) (hq : q.accepts w = true) :
    r.value &&& q.mask = q.value &&& r.mask := by
  simp only [Row.accepts, beq_iff_eq] at hr hq
  rw [← hr, ← hq, Nat.and_right_comm]

/-- Every two different descriptor rows differ on a bit that both fix. -/
theorem busRows_disagree : ∀ r ∈ busRows, ∀ q ∈ busRows, r.value &&& q.mask = q.value &&& r.mask → q = r := by
  decide

end Sys2Proof
end

section
/-!
CERTIFICATES. The statements of 30_encoding.md: decoding undoes encoding, the command rows and the illegal words (R68, R69), and the rows of
the access descriptors (R65, R72).
-/

namespace Sys2Proof.Machine

/-- Settles O1, by the case split over the rows in `decode_encode`. -/
theorem decodeOfEncodeIsIdentity : Obligations.DecodeOfEncodeIsIdentity :=
  fun _ => decode_encode

/-- Settles O2: the decoder's answer is the check of R69, whose complement is the list of R68, and a write to CMD issues the answer. -/
theorem illegalCommandWordsAreExactlyR69 : Obligations.IllegalCommandWordsAreExactlyR69 := by
  intro w
  refine ⟨decodeCommand_eq_illegal_iff.trans illegalWord_iff, fun h s => ?_, decodeCommand_ne_illegal_iff⟩
  calc exec (.wrCmd w) s = issue (decodeCommand w) s := rfl
    _ = issue (.illegal w) s := by rw [h]
    _ = .next { s with errIllegal := true, outputs := Outputs.quiet } := rfl

/-- Settles O3: a word that agrees with a row is the command word of the row's OP and the word's operand bits, and a word in no row is not one
of the twelve legal ones. -/
theorem commandRowsDecodeByMatchAndMask : Obligations.CommandRowsDecodeByMatchAndMask := by
  intro w
  rw [extractLsb'_one_eq_ofBool]
  refine ⟨?nop, ?wcrSample, ?rrIdle, ?rrShow, ?rrSeq, ?rrDone, ?clrStatus, ?noRow⟩
  case wcrSample =>
    exact fun h => (congrArg decodeCommand (eq_commandWord_of_one_operand h)).trans (decodeCommand_wcrSample _)
  case rrShow =>
    exact fun h => (congrArg decodeCommand (eq_commandWord_of_one_operand h)).trans (decodeCommand_rrShow _)
  case rrSeq =>
    exact fun h => (congrArg decodeCommand (eq_commandWord_of_both_operands h)).trans (decodeCommand_rrSeq _ _)
  case noRow =>
    intro hrows
    by_contra hlegal
    obtain ⟨r, hr, haccepts⟩ := exists_commandRow_of_mem_legalWords (decodeCommand_ne_illegal_iff.mp hlegal)
    exact Bool.false_ne_true ((hrows r hr).symm.trans haccepts)
  case nop | rrIdle | rrDone | clrStatus =>
    intro h
    rw [eq_of_full_mask h]
    rfl

/-- Settles O4: the row of the decoded instruction accepts the descriptor, and no other row does, since two rows differ on a bit both fix. -/
theorem everyDescriptorHasOneRow : Obligations.EveryDescriptorHasOneRow := by
  intro desc d
  have hrow := rowAccepts_decodeBus (desc.getLsbD 8) (desc.extractLsb' 6 2) (desc.extractLsb' 0 6) d
  rw [descriptor_fields] at hrow
  obtain ⟨r, hr, hmatch⟩ := List.any_eq_true.mp hrow
  obtain ⟨hmnemonic, haccepts⟩ := (Bool.and_eq_true _ _).mp hmatch
  refine ⟨r, hr, haccepts, (beq_iff_eq.mp hmnemonic).symm, fun q hq hqaccepts => ?_⟩
  exact busRows_disagree r hr q hq (Row.value_agree_of_accepts haccepts hqaccepts)

/-- Settles O5: six of the words are the encoded forms of their instructions; the write data of the undefined byte write is dropped (R113). -/
theorem sampleWordsDecode : Obligations.SampleWordsDecode :=
  ⟨decode_encode (i := .wcrSample .instret) rfl, decode_encode (i := .rrSeq 1#1 true) rfl,
    decode_encode (i := .illegal 0x00000010#32) rfl, decode_encode (i := .rdStatus) rfl,
    decode_encode (i := .wrRrVal0Hi 0x01234567#32) rfl, decode_descriptor true 0#2 0#6 1#32,
    decode_encode (i := .buserrMisaligned2 false 1#4) rfl⟩

end Sys2Proof.Machine
end

section
/-!
SUPPORT. The host accesses (R47 to R52, R81 to R113): what each kind of descriptor decodes to, which accesses are undefined, and what the bus
answers to each kind. The model's tests `witness_bus_error` and `witness_rr_commands` hold a state for each hypothesis here.
-/

namespace Sys2Proof

/-- The word read descriptor of word `n` of the window decodes to the read of the register there, whatever stands on `bus_wdata` (R72). -/
theorem decode_wordRead (n : BitVec 4) (d : Word) : decode (.bus (descriptor false 2#2 (n ++ 0#2)) d) = readAt n := by
  rw [decode_descriptor, decodeBus_aligned]
  rfl

theorem decode_wordReads (ns : List (BitVec 4)) (d : Word) :
    ns.map (fun n => decode (.bus (descriptor false 2#2 (n ++ 0#2)) d)) = ns.map readAt :=
  List.map_congr_left fun n _ => decode_wordRead n d

theorem decode_wordWrites (ns : List (BitVec 4)) (d : Word) :
    ns.map (fun n => decode (encodeWrite n d)) = ns.map (fun n => writeAt n d) :=
  List.map_congr_left fun n _ => decode_encodeWrite n d

/-- A defined access is the read or the write of the register at its word of the window (R72). -/
theorem decodeAccess_of_defined {a : Access} (hsize : a.size = 2#2) (halign : a.addr.extractLsb' 0 2 = 0#2) :
    decodeAccess a = if a.we then writeAt (a.addr.extractLsb' 2 4) a.wdata else readAt (a.addr.extractLsb' 2 4) := by
  have haddr : a.addr.extractLsb' 2 4 ++ 0#2 = a.addr := halign ▸ offset_fields a.addr
  rw [← decodeBus_aligned, haddr, ← hsize]
  rfl

end Sys2Proof

namespace Sys2Proof.Machine

/-! ### Undefined accesses -/

/-- An access whose size is not a word or whose offset is not a multiple of 4 is answered with the bus error (R113). -/
theorem exec_undefined_access {a : Access} (h : ¬ (a.size = 2#2 ∧ a.addr.extractLsb' 0 2 = 0#2)) (s : State) :
    exec (decodeAccess a) s = .next (busError s) := by
  unfold decodeAccess decodeBus
  rcases twoBits_cases a.size with hsize | hsize | hsize | hsize
  · rw [hsize]
    rfl
  · rw [hsize]
    rfl
  · rcases twoBits_cases (a.addr.extractLsb' 0 2) with hlow | hlow | hlow | hlow
    · exact absurd ⟨hsize, hlow⟩ h
    all_goals
      rw [hsize, hlow]
      rfl
  · rw [hsize]
    rfl

/-! ### Defined writes -/

/-- A command completes without a bus error, accepted, dropped or illegal (R82). -/
theorem issue_answers (c : Cmd) (s : State) : ∃ u, issue c s = .next u ∧ u.outputs.busErr = false := by
  cases c with
  | nop | clrStatus | illegal => exact ⟨_, rfl, rfl⟩
  | wcrSample | rrIdle | rrShow | rrSeq | rrDone =>
    simp only [issue, execWcrSample, execRrIdle, execRrShow, execRrSeq, execRrDone]
    split <;> exact ⟨_, rfl, rfl⟩

/-- A write of a value slot is taken when the RR is idle (R175). -/
theorem writeSlot_idle {s : State} (h : s.rrState = .idle) (f : State → State) :
    writeSlot f s = .next (f (respondWrite s)) :=
  if_pos h

/-- A write of a value slot is dropped with ERR_BUSY when the RR is not idle (R175). -/
theorem writeSlot_not_idle {s : State} (h : s.rrState ≠ .idle) (f : State → State) :
    writeSlot f s = .next (setErrBusy (respondWrite s)) :=
  if_neg h

/-- A write of a value word is dropped with ERR_BUSY when the RR is not idle (R98 to R104). -/
theorem exec_slotWrite_not_idle {i : Instr} {s : State} (hi : isSlotWrite i = true) (h : s.rrState ≠ .idle) :
    exec i s = .next (setErrBusy (respondWrite s)) := by
  obtain ⟨f, hf, _⟩ := exec_of_slotWrite hi s
  rw [hf, writeSlot_not_idle h]

/-- Every defined write completes without a bus error: a command, a value write or an ignored write (R82 to R112). -/
theorem exec_writeAt_answers (n : BitVec 4) (d : Word) (s : State) :
    ∃ u, exec (writeAt n d) s = .next u ∧ u.outputs.busErr = false := by
  unfold writeAt
  split
  case h_1 => exact issue_answers (decodeCommand d) s
  case h_9 | h_10 | h_11 | h_12 =>
    by_cases h : s.rrState = .idle
    · exact ⟨_, if_pos h, rfl⟩
    · exact ⟨_, exec_slotWrite_not_idle rfl h, rfl⟩
  all_goals exact ⟨respondWrite s, rfl, rfl⟩

/-- A defined access completes without a bus error (R48). -/
theorem exec_defined_access {a : Access} (hsize : a.size = 2#2) (halign : a.addr.extractLsb' 0 2 = 0#2) (s : State) :
    ∃ u, exec (decodeAccess a) s = .next u ∧ u.outputs.busErr = false := by
  rw [decodeAccess_of_defined hsize halign]
  cases a.we with
  | true => exact exec_writeAt_answers _ a.wdata s
  | false =>
    obtain ⟨d, hd⟩ := exec_readAt (a.addr.extractLsb' 2 4) s
    exact ⟨_, hd, rfl⟩

/-! ### The words that reads answer -/

theorem loWord_eq_setWidth (x : Wide) : loWord x = x.setWidth 32 :=
  (BitVec.setWidth_eq_extractLsb' (by decide)).symm

theorem hiWord_eq_setWidth (x : Wide) : hiWord x = (x >>> 32).setWidth 32 := rfl

/-- The word that OUT is read as has the byte in its low bits and 0 above (R105). -/
theorem setWidth_byte (v : Byte) : v.setWidth 32 = 0#24 ++ v :=
  BitVec.setWidth_eq_append (by decide)

/-- A one-bit field of a word is the bit there. -/
theorem getLsbD_of_field {w : Word} {i : Nat} {b : Bool} (h : w.extractLsb' i 1 = BitVec.ofBool b) : w.getLsbD i = b := by
  rw [extractLsb'_one_eq_ofBool] at h
  exact BitVec.ofBool_eq_iff_eq.mp h

/-- The word has each field of STATUS at its bits (R38). -/
structure StatusFields (s : State) (d : Word) : Prop where
  wcrBusy : d.extractLsb' 0 1 = BitVec.ofBool (wcrBusy s)
  wcrValid : d.extractLsb' 1 1 = BitVec.ofBool s.wcrValid
  wcrWrap : d.extractLsb' 2 1 = BitVec.ofBool s.wcrWrap
  wcrKind : d.extractLsb' 3 1 = kindCode s.wcrKind
  wcrState : d.extractLsb' 4 3 = wcrCode s.wcrState
  reservedBit : d.extractLsb' 7 1 = 0#1
  rrBusy : d.extractLsb' 8 1 = BitVec.ofBool (rrBusy s)
  rrState : d.extractLsb' 9 3 = rrCode s.rrState
  rrFrame : d.extractLsb' 12 3 = s.rrFrame
  rrVidx : d.extractLsb' 15 1 = s.rrVidx
  rrLoop : d.extractLsb' 16 1 = BitVec.ofBool s.rrLoop
  activeLow : d.extractLsb' 17 1 = BitVec.ofBool s.params.activeLow
  errBusy : d.extractLsb' 18 1 = BitVec.ofBool s.errBusy
  errIllegal : d.extractLsb' 19 1 = BitVec.ofBool s.errIllegal
  rrLast : d.extractLsb' 20 1 = s.rrLast
  reservedHigh : d.extractLsb' 21 11 = 0#11

/-- Each field of STATUS is found by dropping the fields below it. -/
theorem statusWord_fields (s : State) : StatusFields s (statusWord s) := by
  constructor <;> unfold statusWord
  all_goals repeat rw [BitVec.extractLsb'_append_eq_of_le (by decide)]
  case reservedHigh => exact BitVec.extractLsb'_eq_self
  all_goals exact BitVec.extractLsb'_append_eq_right

theorem wcrBusy_iff {s : State} : wcrBusy s = true ↔ s.wcrState ≠ .idle := by
  simp [wcrBusy]

theorem kindCode_eq_ofBool (k : Kind) : kindCode k = BitVec.ofBool (bitOfKind k) := by
  cases k <;> rfl

theorem bitOfKind_iff {k : Kind} : bitOfKind k = true ↔ k = .instret := by
  cases k <;> simp [bitOfKind]

theorem rrBusy_iff {s : State} : rrBusy s = true ↔ s.rrState ∈ [.frame, .pause, .gap, .doneWait] := by
  unfold rrBusy
  cases s.rrState <;> simp [rrHolds]

end Sys2Proof.Machine
end

section
/-!
SUPPORT. The cycles in which no register is written (R114, R122, R145, R167): neither unit has a step to make and no access is presented. And
the bus response of a reset cycle (R114, R201).
-/

namespace Sys2Proof.Machine

/-- An idle WCR makes no step (R122). -/
theorem wcrStep_idle {s0 : State} (h : s0.wcrState = .idle) (s : State) : wcrStep s0 s = s := by
  simp only [wcrStep, h]

/-- An RR without a hold makes no step (R145, R167). -/
theorem rrStep_no_hold {s0 : State} (h : rrHolds s0.rrState = false) (s : State) : rrStep s0 s = s := by
  simp [rrStep, h]

/-- Quiet outputs without an access make no event (R10). -/
theorem recordEvents_quiet {s0 : State} (h : s0.pins.bus = none) (s : State) : recordEvents s0 (quiet s) = quiet s := by
  simp [recordEvents, cycleEvents, h, Outputs.quiet, quiet]

/-- A cycle without access in which neither unit steps moves the environment on and does nothing else (R114). -/
theorem finishCycle_quiet {s : State} (hb : s.pins.bus = none) (hw : s.wcrState = .idle) (hr : rrHolds s.rrState = false) :
    finishCycle s (quiet s) = advanceEnvironment s (quiet s) := by
  rw [finishCycle, wcrStep_idle hw, rrStep_no_hold hr, recordEvents_quiet hb]

/-- A step without reset and without an access ends the cycle over the state with quiet outputs (R114). -/
theorem step_no_access {s : State} (hr : s.pins.rst = false) (hb : s.pins.bus = none) (hd : fsmDefined s = true) :
    step s = .next (finishCycle s (quiet s)) := by
  obtain ⟨u, hu, ⟨_, rfl⟩ | ⟨i, hi, _⟩⟩ := step_next hr hd
  · exact hu
  · simp [fetch, hb] at hi

/-- No access is an error in a reset cycle, an undefined one included (R201; log 10). -/
@[simp] theorem resetOutputs_busErr (bus : Option Access) : (resetOutputs bus).busErr = false := by
  unfold resetOutputs
  split
  · split <;> rfl
  · rfl

/-- A read in a reset cycle is answered with 0 (R114). -/
theorem resetOutputs_read {a : Access} (h : a.we = false) : (resetOutputs (some a)).busRdata = some 0#32 := by
  simp [resetOutputs, h]

end Sys2Proof.Machine
end

section
/-!
CERTIFICATES. The statements of 40_bus.md: which accesses are errors (R113), what each defined read answers and each defined write changes (R81
to R112), and the cycles without access or in reset (R114).
-/

namespace Sys2Proof.Machine

/-- Settles O37: the two halves of the decoder of R72, the undefined accesses and the defined ones. -/
theorem busErrorExactlyForUndefinedAccesses : Obligations.BusErrorExactlyForUndefinedAccesses :=
  fun _ s => ⟨fun hundef => exec_undefined_access hundef s, fun ⟨hsize, halign⟩ => exec_defined_access hsize halign s⟩

/-- Settles O7: neither unit has a step to make, so the step only advances the environment. -/
theorem quietCycleChangesNoRegister : Obligations.QuietCycleChangesNoRegister := by
  intro s hr hb hw hrr
  have hhold : rrHolds s.rrState = false := by rcases hrr with h | h <;> rw [h] <;> rfl
  have hd : fsmDefined s = true := fsmDefined_iff.mpr ⟨by rw [hw]; rfl, by rcases hrr with h | h <;> rw [h] <;> rfl⟩
  rw [step_no_access hr hb hd, finishCycle_quiet hb hw hhold]
  rfl

/-- Settles O12: the step is the reset cycle, whose response depends on the access alone. -/
theorem resetCycleAnswersReadsWithZero : Obligations.ResetCycleAnswersReadsWithZero := by
  intro s t hd hr h
  cases (step_reset hr hd).symm.trans h
  refine ⟨resetOutputs_cnt _, resetOutputs_outWe _, resetOutputs_busErr _, fun a hb ha => ?_⟩
  rw [resetCycle_outputs, hb, resetOutputs_read ha]

/-- Settles O22: the write issues the decoded command, and every command completes. -/
theorem writeToCmdIssuesTheDecodedCommand : Obligations.WriteToCmdIssuesTheDecodedCommand :=
  fun w s => ⟨decode_encodeWrite 0#4 w, (exec_instrOfCmd (decodeCommand w) s).symm, issue_answers (decodeCommand w) s⟩

/-- Settles O30: words 0 and 15 of the window. -/
theorem readsOfCmdAndReservedReturnZero : Obligations.ReadsOfCmdAndReservedReturnZero :=
  fun _ d => ⟨decode_wordRead 0#4 d, decode_wordRead 15#4 d, rfl, rfl⟩

/-- Settles O31: word 1 of the window answers the STATUS word, whose fields `statusWord_fields` gives. -/
theorem readOfStatusReturnsEveryField : Obligations.ReadOfStatusReturnsEveryField := by
  refine ⟨decode_wordRead 1#4, fun s => ⟨statusWord s, rfl, ?_⟩⟩
  have f := statusWord_fields s
  have wcr {x : WcrState} (h : s.wcrState = x) := f.wcrState.trans (congrArg wcrCode h)
  have rr {x : RrState} (h : s.rrState = x) := f.rrState.trans (congrArg rrCode h)
  have hkind := getLsbD_of_field (f.wcrKind.trans (kindCode_eq_ofBool s.wcrKind))
  refine ⟨?wcrBusy, getLsbD_of_field f.wcrValid, getLsbD_of_field f.wcrWrap, ?wcrKind, f.wcrState,
    getLsbD_of_field (b := false) f.reservedBit, wcr, wcr, wcr, wcr, wcr, ?rrBusy, rr, rr, rr, rr, rr, rr, f.rrState,
    f.rrFrame, f.rrVidx, getLsbD_of_field f.rrLoop, getLsbD_of_field f.activeLow, getLsbD_of_field f.errBusy,
    getLsbD_of_field f.errIllegal, f.rrLast, f.reservedHigh⟩
  case wcrBusy => rw [getLsbD_of_field f.wcrBusy, wcrBusy_iff]
  case wcrKind => rw [hkind, bitOfKind_iff]
  case rrBusy => rw [getLsbD_of_field f.rrBusy, rrBusy_iff]

/-- Settles O32: words 2 to 7 of the window, each answered by `respondRead` of its register. -/
theorem readsOfTheWcrRegisters : Obligations.ReadsOfTheWcrRegisters := by
  intro s d
  rw [← loWord_eq_setWidth, ← hiWord_eq_setWidth]
  exact ⟨decode_wordReads [2#4, 3#4, 4#4, 5#4, 6#4, 7#4] d, rfl, rfl, rfl, rfl, rfl, rfl⟩

/-- Settles O33: words 8 to 14 of the window, each answered by `respondRead` of its register or input. -/
theorem readsOfTheRrRegisters : Obligations.ReadsOfTheRrRegisters := by
  intro s d
  rw [← hiWord_eq_setWidth s.rrVal0, ← hiWord_eq_setWidth s.rrVal1, ← setWidth_byte]
  simp only [← loWord_eq_setWidth]
  exact ⟨decode_wordReads [8#4, 9#4, 10#4, 11#4, 12#4, 13#4, 14#4] d, rfl, rfl, rfl, rfl, rfl, rfl, rfl⟩

/-- Settles O34: words 1 to 7 and 12 to 15 of the window, each write `ignoreWrite`. -/
theorem writesOfReadOnlyRegistersAreIgnored : Obligations.WritesOfReadOnlyRegistersAreIgnored :=
  fun d _ => ⟨decode_wordWrites [1#4, 2#4, 3#4, 4#4, 5#4, 6#4, 7#4, 12#4, 13#4, 14#4, 15#4] d,
    List.forall_iff_forall_mem.mp ⟨rfl, rfl, rfl, rfl, rfl, rfl, rfl, rfl, rfl, rfl, rfl⟩⟩

/-- Settles O35: words 8 to 11 of the window, each write `writeSlot` of its word. -/
theorem valueSlotWritesNeedAnIdleRr : Obligations.ValueSlotWritesNeedAnIdleRr := by
  intro d s
  refine ⟨decode_wordWrites [8#4, 9#4, 10#4, 11#4] d, fun hidle => ⟨?_, ?_, ?_, ?_⟩, fun hbusy i hi => ?dropped⟩
  case dropped =>
    have hslots : [Instr.wrRrVal0Lo d, .wrRrVal0Hi d, .wrRrVal1Lo d, .wrRrVal1Hi d].Forall fun i => isSlotWrite i = true :=
      ⟨rfl, rfl, rfl, rfl⟩
    exact exec_slotWrite_not_idle (List.forall_iff_forall_mem.mp hslots i hi) hbusy
  · exact writeSlot_idle hidle fun t => { t with rrVal0 := withLoWord s.rrVal0 d }
  · exact writeSlot_idle hidle fun t => { t with rrVal0 := withHiWord s.rrVal0 d }
  · exact writeSlot_idle hidle fun t => { t with rrVal1 := withLoWord s.rrVal1 d }
  · exact writeSlot_idle hidle fun t => { t with rrVal1 := withHiWord s.rrVal1 d }

/-- Settles O36: each of the six rows is `busError`. -/
theorem busErrorRowsChangeNoRegister : Obligations.BusErrorRowsChangeNoRegister :=
  fun _ _ _ _ => List.forall_iff_forall_mem.mp ⟨rfl, rfl, rfl, rfl, rfl, rfl⟩

end Sys2Proof.Machine
end

section
/-!
SUPPORT. Independence of the units (R134, R177): the host access of a cycle does to the WCR's registers what the issued command and WCR_STATE
say, and to the RR's what the access and the RR's registers say; and each unit's own step reads its own registers and its own inputs alone.
-/

namespace Sys2Proof.Machine

theorem WcrSame.symm {s u : State} (h : WcrSame s u) : WcrSame u s where
  wcrState := h.wcrState.symm
  wcrKind := h.wcrKind.symm
  wcrH1 := h.wcrH1.symm
  wcrL1 := h.wcrL1.symm
  wcrH2 := h.wcrH2.symm
  wcrL2 := h.wcrL2.symm
  wcrRes := h.wcrRes.symm
  wcrValid := h.wcrValid.symm
  wcrWrap := h.wcrWrap.symm

theorem WcrSame.trans {s u v : State} (hsu : WcrSame s u) (huv : WcrSame u v) : WcrSame s v where
  wcrState := huv.wcrState.trans hsu.wcrState
  wcrKind := huv.wcrKind.trans hsu.wcrKind
  wcrH1 := huv.wcrH1.trans hsu.wcrH1
  wcrL1 := huv.wcrL1.trans hsu.wcrL1
  wcrH2 := huv.wcrH2.trans hsu.wcrH2
  wcrL2 := huv.wcrL2.trans hsu.wcrL2
  wcrRes := huv.wcrRes.trans hsu.wcrRes
  wcrValid := huv.wcrValid.trans hsu.wcrValid
  wcrWrap := huv.wcrWrap.trans hsu.wcrWrap

/-- Agreement on the WCR is the same WCR registers and the same counters. -/
theorem WcrAgree.same {s s' : State} (h : WcrAgree s s') : WcrSame s' s :=
  ⟨h.wcrState, h.wcrKind, h.wcrH1, h.wcrL1, h.wcrH2, h.wcrL2, h.wcrRes, h.wcrValid, h.wcrWrap⟩

theorem WcrAgree.counterValue {s s' : State} (h : WcrAgree s s') (k : Kind) : counterValue s k = counterValue s' k := by
  cases k with
  | cycle => exact h.cntCycle
  | instret => exact h.cntInstret

theorem wcrAgree_of_same {s s' : State} (h : WcrSame s' s) (hc : ∀ k, counterValue s k = counterValue s' k) : WcrAgree s s' :=
  ⟨h.wcrState, h.wcrKind, h.wcrH1, h.wcrL1, h.wcrH2, h.wcrL2, h.wcrRes, h.wcrValid, h.wcrWrap, hc .cycle, hc .instret⟩

theorem RrAgree.symm {s u : State} (h : RrAgree s u) : RrAgree u s where
  rrState := h.rrState.symm
  rrFrame := h.rrFrame.symm
  rrVidx := h.rrVidx.symm
  rrLast := h.rrLast.symm
  rrLoop := h.rrLoop.symm
  rrTimer := h.rrTimer.symm
  rrVal0 := h.rrVal0.symm
  rrVal1 := h.rrVal1.symm
  out := h.out.symm

/-! ### The host access -/

theorem fetch_congr {s s' : State} (h : s.pins.bus = s'.pins.bus) : fetch s = fetch s' := by
  simp only [fetch, h]

theorem issuedCommand_congr {s s' : State} (h : s.pins.bus = s'.pins.bus) : issuedCommand s = issuedCommand s' := by
  simp only [issuedCommand, fetch_congr h]

theorem access_executes {s u : State} {i : Instr} (hf : fetch s = some i) (h : AccessMakes s u) : exec i s = .next u := by
  rcases h with ⟨hn, _⟩ | ⟨j, hj, hx⟩
  · cases hf.symm.trans hn
  · cases hf.symm.trans hj
    exact hx

/-- An issued command is executed in its cycle (R82). -/
theorem access_issues {s u : State} {c : Cmd} (hc : issuedCommand s = some c) (h : AccessMakes s u) : issue c s = .next u := by
  unfold issuedCommand at hc
  split at hc
  · next w hw =>
    cases hc
    exact access_executes hw h
  · cases hc

/-- A fetched instruction that presents a command issues it: it is the write of the command's word to CMD (R63, R82). -/
theorem issuedCommand_of_presents {s : State} {i : Instr} {c : Cmd} (hf : fetch s = some i) (hp : presents i c) :
    issuedCommand s = some c := by
  rcases hp with hrow | ⟨w, rfl, rfl⟩
  · exact absurd hrow (fetch_ne_instrOfCmd hf c)
  · exact issuedCommand_of_write hf

theorem access_accepts_sample {s u : State} {k : Kind} (hidle : s.wcrState = .idle)
    (hc : issuedCommand s = some (.wcrSample k)) (h : AccessMakes s u) : u = sampleStarted k s := by
  cases (if_pos hidle).symm.trans (access_issues hc h)
  rfl

/-- No access but an accepted WCR_SAMPLE touches the WCR's registers (R122, R177). -/
theorem access_wcrSame {s u : State} (hno : s.wcrState = .idle → ∀ k, issuedCommand s ≠ some (.wcrSample k))
    (h : AccessMakes s u) : WcrSame s u := by
  rcases h with ⟨_, rfl⟩ | ⟨i, hf, hx⟩
  · exact ⟨rfl, rfl, rfl, rfl, rfl, rfl, rfl, rfl, rfl⟩
  · rcases exec_wcr hx with hsame | ⟨hidle, k, hp, _⟩
    · exact hsame
    · exact absurd (issuedCommand_of_presents hf hp) (hno hidle k)

/-- The same access takes two states with the same WCR registers to two such states (R134). -/
theorem access_wcr_congr {s s' u u' : State} (hb : s.pins.bus = s'.pins.bus) (hs : WcrSame s' s)
    (h : AccessMakes s u) (h' : AccessMakes s' u') : WcrSame u' u := by
  have hcmd := issuedCommand_congr hb
  by_cases hacc : s.wcrState = .idle ∧ ∃ k, issuedCommand s = some (.wcrSample k)
  · obtain ⟨hidle, k, hk⟩ := hacc
    rw [access_accepts_sample hidle hk h,
      access_accepts_sample (hs.wcrState.symm.trans hidle) (hcmd.symm.trans hk) h']
    exact ⟨rfl, rfl, rfl, rfl, rfl, rfl, hs.wcrRes, rfl, rfl⟩
  · have hno : s.wcrState = .idle → ∀ k, issuedCommand s ≠ some (.wcrSample k) :=
      fun hidle k hk => hacc ⟨hidle, k, hk⟩
    have hno' : s'.wcrState = .idle → ∀ k, issuedCommand s' ≠ some (.wcrSample k) := by
      rwa [← hs.wcrState, ← hcmd]
    exact (access_wcrSame hno' h').symm.trans (hs.trans (access_wcrSame hno h))

theorem slotValue_congr {s s' : State} (h : RrAgree s s') (slot : BitVec 1) : slotValue s slot = slotValue s' slot := by
  simp only [slotValue, h.rrVal0, h.rrVal1]

theorem hold_congr {s s' : State} (hp : s.params = s'.params) (hz : s.pins.clkHz = s'.pins.clkHz) (ms : Word) :
    hold s ms = hold s' ms := by
  simp only [hold, hp, hz]

/-- The entry of a frame reads the slot's value, the polarity and the dwell (R141). -/
theorem enterFrame_rrAgree {s0 s0' s s' : State} (ha : RrAgree s0 s0') (hp : s0.params = s0'.params)
    (hz : s0.pins.clkHz = s0'.pins.clkHz) (slot : BitVec 1) (n : BitVec 3) (hidx : s.rrVidx = s'.rrVidx)
    (hlast : s.rrLast = s'.rrLast) (hloop : s.rrLoop = s'.rrLoop) (hv0 : s.rrVal0 = s'.rrVal0) (hv1 : s.rrVal1 = s'.rrVal1) :
    RrAgree (enterFrame s0 slot n s) (enterFrame s0' slot n s') where
  rrState := rfl
  rrFrame := rfl
  rrVidx := hidx
  rrLast := hlast
  rrLoop := hloop
  rrTimer := hold_congr hp hz Config.dwellMs
  rrVal0 := hv0
  rrVal1 := hv1
  out := by rw [enterFrame_out, enterFrame_out, hp, slotValue_congr ha]

/-- A command accepted by an idle RR reads the RR's registers, the parameters and `clk_hz` (R140 to R144, R163). -/
theorem rrAccepted_congr {s s' : State} (ha : RrAgree s s') (hp : s.params = s'.params)
    (hz : s.pins.clkHz = s'.pins.clkHz) (c : Cmd) : RrAgree (rrAccepted c s) (rrAccepted c s') := by
  cases c with
  | rrIdle => exact { ha with out := congrArg idlePattern hp }
  | rrShow slot => exact enterFrame_rrAgree ha hp hz slot 7#3 rfl rfl rfl ha.rrVal0 ha.rrVal1
  | rrSeq cnt loop => exact enterFrame_rrAgree ha hp hz 0#1 7#3 rfl rfl rfl ha.rrVal0 ha.rrVal1
  | rrDone =>
    have htimer : hold s s.params.doneDelayMs = hold s' s'.params.doneDelayMs := by rw [hp, hold_congr hp hz]
    exact { ha with rrState := rfl, rrTimer := htimer, out := congrArg donePattern hp }
  | nop | wcrSample | clrStatus | illegal => exact ha

theorem access_accepts_rrCommand {s u : State} {c : Cmd} (hidle : s.rrState = .idle) (hc : issuedCommand s = some c)
    (hr : isRrCommand c = true) (h : AccessMakes s u) : u = rrAccepted c s := by
  have hx := access_issues hc h
  cases c with
  | rrIdle | rrShow | rrSeq | rrDone =>
    cases (if_pos hidle).symm.trans hx
    rfl
  | nop | wcrSample | clrStatus | illegal => cases hr

/-- A write of a value slot that an idle RR takes keeps the agreement on the RR when its update does. -/
theorem writeSlot_congr {f f' : State → State} {s s' u u' : State}
    (hf : RrAgree (respondWrite s) (respondWrite s') → RrAgree (f (respondWrite s)) (f' (respondWrite s')))
    (ha : RrAgree s s') (hidle : s.rrState = .idle) (h : writeSlot f s = .next u) (h' : writeSlot f' s' = .next u') :
    RrAgree u u' := by
  cases (writeSlot_idle hidle f).symm.trans h
  cases (writeSlot_idle (ha.rrState.symm.trans hidle) f').symm.trans h'
  exact hf { ha with }

/-- A write of a value slot on an idle RR replaces one word of a slot (R98 to R104). -/
theorem exec_slotWrite_congr {i : Instr} {s s' u u' : State} (hi : isSlotWrite i = true) (ha : RrAgree s s')
    (hidle : s.rrState = .idle) (h : exec i s = .next u) (h' : exec i s' = .next u') : RrAgree u u' := by
  cases i with
  | wrRrVal0Lo d =>
    simp only [exec, execWrRrVal0Lo] at h h'
    exact writeSlot_congr (fun hw => { hw with rrVal0 := congrArg (withLoWord · d) ha.rrVal0 }) ha hidle h h'
  | wrRrVal0Hi d =>
    simp only [exec, execWrRrVal0Hi] at h h'
    exact writeSlot_congr (fun hw => { hw with rrVal0 := congrArg (withHiWord · d) ha.rrVal0 }) ha hidle h h'
  | wrRrVal1Lo d =>
    simp only [exec, execWrRrVal1Lo] at h h'
    exact writeSlot_congr (fun hw => { hw with rrVal1 := congrArg (withLoWord · d) ha.rrVal1 }) ha hidle h h'
  | wrRrVal1Hi d =>
    simp only [exec, execWrRrVal1Hi] at h h'
    exact writeSlot_congr (fun hw => { hw with rrVal1 := congrArg (withHiWord · d) ha.rrVal1 }) ha hidle h h'
  | _ => cases hi

/-- No access but an RR command or a write of a value slot touches the RR's registers (R177). -/
theorem access_rrAgree_of_no_rrAccess {s u : State} (hcmd : ∀ c, issuedCommand s = some c → isRrCommand c = false)
    (hslot : ∀ i, fetch s = some i → isSlotWrite i = false) (h : AccessMakes s u) : RrAgree s u := by
  rcases h with ⟨_, rfl⟩ | ⟨i, hf, hx⟩
  · exact ⟨rfl, rfl, rfl, rfl, rfl, rfl, rfl, rfl, rfl⟩
  · rcases exec_cases hx with ⟨c, hp, hc⟩ | ⟨o, _, _, rfl⟩ | ⟨hi, _⟩ | ⟨hi, _⟩
    · have hnot := hcmd c (issuedCommand_of_presents hf hp)
      rcases issue_cases hc with ⟨eb, ei, rfl, _⟩ | ⟨k, _, _, rfl⟩ | ⟨hr, _⟩
      · exact ⟨rfl, rfl, rfl, rfl, rfl, rfl, rfl, rfl, rfl⟩
      · exact ⟨rfl, rfl, rfl, rfl, rfl, rfl, rfl, rfl, rfl⟩
      · cases hnot.symm.trans hr
    · exact ⟨rfl, rfl, rfl, rfl, rfl, rfl, rfl, rfl, rfl⟩
    all_goals cases (hslot i hf).symm.trans hi

/-- The same access takes two states that agree on the RR to two such states (R134). -/
theorem access_rr_congr {s s' u u' : State} (hb : s.pins.bus = s'.pins.bus) (ha : RrAgree s s') (hp : s.params = s'.params)
    (hz : s.pins.clkHz = s'.pins.clkHz) (h : AccessMakes s u) (h' : AccessMakes s' u') : RrAgree u u' := by
  have hissued := issuedCommand_congr hb
  have hfetch := fetch_congr hb
  by_cases hidle : s.rrState = .idle
  · have hidle' : s'.rrState = .idle := ha.rrState.symm.trans hidle
    by_cases hcmd : ∃ c, issuedCommand s = some c ∧ isRrCommand c = true
    · obtain ⟨c, hc, hr⟩ := hcmd
      rw [access_accepts_rrCommand hidle hc hr h, access_accepts_rrCommand hidle' (hissued.symm.trans hc) hr h']
      exact rrAccepted_congr ha hp hz c
    · by_cases hslot : ∃ i, fetch s = some i ∧ isSlotWrite i = true
      · obtain ⟨i, hf, hi⟩ := hslot
        exact exec_slotWrite_congr hi ha hidle (access_executes hf h) (access_executes (hfetch.symm.trans hf) h')
      · simp only [not_exists, not_and, Bool.not_eq_true] at hcmd hslot
        have hu := access_rrAgree_of_no_rrAccess hcmd hslot h
        have hu' := access_rrAgree_of_no_rrAccess (hissued ▸ hcmd) (hfetch ▸ hslot) h'
        exact hu.symm.trans (ha.trans hu')
  · have hidle' : s'.rrState ≠ .idle := ha.rrState ▸ hidle
    exact (access_rrAgree hidle h).symm.trans (ha.trans (access_rrAgree hidle' h'))

/-! ### The units' own steps -/

theorem driveCounterPort_congr {s0 s0' : State} (h : WcrAgree s0 s0') (half : Half) (s : State) :
    driveCounterPort s0 half s = driveCounterPort s0' half s := by
  simp only [driveCounterPort, readHalf, h.wcrKind, h.counterValue]

/-- The WCR's step reads the WCR's registers and the counters alone (R134). -/
theorem wcrStep_reads_wcr {s0 s0' : State} (h : WcrAgree s0 s0') (s : State) : wcrStep s0 s = wcrStep s0' s := by
  have hport := driveCounterPort_congr h
  have hread : ∀ half, readHalf s0 s0.wcrKind half = readHalf s0' s0'.wcrKind half := fun half => by
    rw [readHalf, h.wcrKind, h.counterValue, readHalf]
  unfold wcrStep
  rw [← h.wcrState]
  cases s0.wcrState with
  | idle | undef5 | undef6 | undef7 => rfl
  | rdH1 => simp only [stepRdH1, hport, hread]
  | rdL => simp only [stepRdL, hport, hread]
  | rdH2 => simp only [stepRdH2, hport, hread, h.wcrH1, h.wcrL1]
  | rdL2 => simp only [stepRdL2, hport, hread, h.wcrH2]

/-- The WCR's step over two states with the same WCR registers ends in two such states (R134). -/
theorem wcrStep_wcrSame (s0 : State) {s s' : State} (h : WcrSame s s') : WcrSame (wcrStep s0 s) (wcrStep s0 s') := by
  unfold wcrStep
  cases s0.wcrState with
  | idle | undef5 | undef6 | undef7 => exact h
  | rdH1 => exact { h with wcrState := rfl, wcrH1 := rfl }
  | rdL => exact { h with wcrState := rfl, wcrL1 := rfl }
  | rdH2 =>
    simp only [stepRdH2]
    split
    · exact { h with wcrState := rfl, wcrH2 := rfl, wcrRes := rfl, wcrValid := rfl }
    · exact { h with wcrState := rfl, wcrH2 := rfl, wcrWrap := rfl }
  | rdL2 => exact { h with wcrState := rfl, wcrL2 := rfl, wcrRes := rfl, wcrValid := rfl }

/-- An exit of the RR reads the RR's registers, the parameters and `clk_hz`, and writes the RR's registers alone (R134, R147 to R150, R165). -/
theorem rrExit_congr {s0 s0' s s' : State} (h0 : RrAgree s0 s0') (hp : s0.params = s0'.params)
    (hz : s0.pins.clkHz = s0'.pins.clkHz) (h : RrAgree s s') : RrAgree (rrExit s0 s) (rrExit s0' s') := by
  unfold rrExit
  rw [← h0.rrState]
  cases s0.rrState with
  | idle | halted | undef6 | undef7 => exact h
  | frame =>
    simp only [exitFrame, ← h0.rrFrame, ← h0.rrVidx]
    split
    · exact enterFrame_rrAgree h0 hp hz _ _ h.rrVidx h.rrLast h.rrLoop h.rrVal0 h.rrVal1
    · exact { h with rrState := rfl, rrTimer := hold_congr hp hz Config.pauseMs }
  | pause =>
    have hout : idlePattern s0.params = idlePattern s0'.params := congrArg idlePattern hp
    simp only [exitPause, endOfValue, ← h0.rrVidx, ← h0.rrLast, ← h0.rrLoop]
    split
    · exact { h with rrState := rfl, out := hout }
    · exact { h with rrState := rfl, rrTimer := hold_congr hp hz Config.gapMs, out := hout }
  | gap =>
    have hnext : nextSlot s0 = nextSlot s0' := by simp only [nextSlot, h0.rrVidx, h0.rrLast]
    simp only [exitGap, ← hnext]
    exact enterFrame_rrAgree h0 hp hz _ 7#3 rfl h.rrLast h.rrLoop h.rrVal0 h.rrVal1
  | doneWait => exact { h with rrState := rfl }

/-- The RR's step reads the RR's registers, the parameters and `clk_hz`, and writes the RR's registers alone (R134). -/
theorem rrStep_congr {s0 s0' s s' : State} (h0 : RrAgree s0 s0') (hp : s0.params = s0'.params)
    (hz : s0.pins.clkHz = s0'.pins.clkHz) (h : RrAgree s s') : RrAgree (rrStep s0 s) (rrStep s0' s') := by
  unfold rrStep
  rw [← h0.rrState, ← h0.rrTimer]
  split
  · split
    · exact { h with rrTimer := congrArg (· - 1#64) h0.rrTimer }
    · exact rrExit_congr h0 hp hz h
  · exact h

/-! ### The step -/

/-- The advance of a counter is its draw and A_MAX alone (R19). -/
theorem counterAdvance_congr {s s' : State} (hmax : s.params.aMax = s'.params.aMax) (hcycle : s.pins.drawCycle = s'.pins.drawCycle)
    (hinstret : s.pins.drawInstret = s'.pins.drawInstret) (k : Kind) : counterAdvance s k = counterAdvance s' k := by
  cases k <;> simp only [counterAdvance, hmax, hcycle, hinstret]

/-- Where the access left the same WCR registers, the end of a cycle does too (R134). -/
theorem finishCycle_wcr_congr {s s' u u' : State} (h : WcrAgree s s') (hu : WcrSame u' u) :
    WcrSame (finishCycle s' u') (finishCycle s u) := by
  have hstep : WcrSame (wcrStep s' u') (wcrStep s u) := by
    rw [wcrStep_reads_wcr h]
    exact wcrStep_wcrSame s' hu
  exact (finishCycle_wcrSame s' u').symm.trans (hstep.trans (finishCycle_wcrSame s u))

/-- Where the access left states that agree on the RR, the end of a cycle does too (R134). -/
theorem finishCycle_rr_congr {s s' u u' : State} (h : RrAgree s s') (hp : s.params = s'.params)
    (hz : s.pins.clkHz = s'.pins.clkHz) (hu : RrAgree u u') : RrAgree (finishCycle s u) (finishCycle s' u') := by
  have hacc : RrAgree (wcrStep s u) (wcrStep s' u') := (wcrStep_rrAgree s u).symm.trans (hu.trans (wcrStep_rrAgree s' u'))
  exact (finishCycle_rrAgree s u).symm.trans ((rrStep_congr h hp hz hacc).trans (finishCycle_rrAgree s' u'))

theorem resetCycle_wcrSame (s s' : State) : WcrSame (resetCycle s') (resetCycle s) :=
  ⟨rfl, rfl, rfl, rfl, rfl, rfl, rfl, rfl, rfl⟩

theorem resetCycle_rr_congr {s s' : State} (hp : s.params = s'.params) : RrAgree (resetCycle s) (resetCycle s') :=
  ⟨rfl, rfl, rfl, rfl, rfl, rfl, rfl, rfl, congrArg idlePattern hp⟩

/-- Two steps with the same reset and access: two reset cycles, or two ends of a cycle over what the access made of each state. -/
theorem step_cases_pair {s s' t t' : State} (h : step s = .next t) (h' : step s' = .next t')
    (hr : s.pins.rst = s'.pins.rst) :
    (t = resetCycle s ∧ t' = resetCycle s')
    ∨ ∃ u u', t = finishCycle s u ∧ t' = finishCycle s' u' ∧ AccessMakes s u ∧ AccessMakes s' u' := by
  obtain ⟨_, _, ⟨hrst, ht⟩ | ⟨hrst, u, ht, hu⟩⟩ := step_cases h <;>
    obtain ⟨_, _, ⟨hrst', ht'⟩ | ⟨hrst', u', ht', hu'⟩⟩ := step_cases h'
  · exact .inl ⟨ht, ht'⟩
  · cases hrst.symm.trans (hr.trans hrst')
  · cases hrst.symm.trans (hr.trans hrst')
  · exact .inr ⟨u, u', ht, ht', hu, hu'⟩

end Sys2Proof.Machine
end

section
/-!
SUPPORT. The steps of a sample (R116 to R120): without reset a step does to the WCR's registers and the counter port what the sequencer's own
step does from the start-of-cycle state, whatever the host access, unless that access starts a sample; so a run of a sample is made of one
counter read a cycle.
-/

namespace Sys2Proof.Machine

/-! ### One step -/

theorem wcrStep_rdH1 {s0 : State} (h : s0.wcrState = .rdH1) (s : State) : wcrStep s0 s = stepRdH1 s0 s := by
  simp only [wcrStep, h]

theorem wcrStep_rdL {s0 : State} (h : s0.wcrState = .rdL) (s : State) : wcrStep s0 s = stepRdL s0 s := by
  simp only [wcrStep, h]

theorem wcrStep_rdH2 {s0 : State} (h : s0.wcrState = .rdH2) (s : State) : wcrStep s0 s = stepRdH2 s0 s := by
  simp only [wcrStep, h]

theorem wcrStep_rdL2 {s0 : State} (h : s0.wcrState = .rdL2) (s : State) : wcrStep s0 s = stepRdL2 s0 s := by
  simp only [wcrStep, h]

theorem stepRdH2_of_eq {s0 : State} (h : hiWord (counterValue s0 s0.wcrKind) = s0.wcrH1) (s : State) :
    stepRdH2 s0 s = { driveCounterPort s0 .high s with
      wcrH2 := hiWord (counterValue s0 s0.wcrKind)
      wcrRes := wideOf s0.wcrH1 s0.wcrL1
      wcrValid := true
      wcrState := .idle } :=
  if_pos h

theorem stepRdH2_of_ne {s0 : State} (h : hiWord (counterValue s0 s0.wcrKind) ≠ s0.wcrH1) (s : State) :
    stepRdH2 s0 s = { driveCounterPort s0 .high s with
      wcrH2 := hiWord (counterValue s0 s0.wcrKind)
      wcrWrap := true
      wcrState := .rdL2 } :=
  if_neg h

/-- The state `t` has the WCR registers and the counter port of `w`. -/
structure WcrEnds (w t : State) : Prop extends WcrSame w t where
  port : t.outputs.cnt = w.outputs.cnt

/-- The counter port after the WCR's step follows from the start-of-cycle state and the port before it. -/
theorem wcrStep_cnt_congr (s0 : State) {s s' : State} (h : s.outputs.cnt = s'.outputs.cnt) :
    (wcrStep s0 s).outputs.cnt = (wcrStep s0 s').outputs.cnt := by
  unfold wcrStep
  cases s0.wcrState with
  | idle | undef5 | undef6 | undef7 => exact h
  | rdH1 | rdL | rdL2 => rfl
  | rdH2 =>
    simp only [stepRdH2]
    split <;> rfl

theorem finishCycle_wcrEnds (s u : State) : WcrEnds (wcrStep s u) (finishCycle s u) :=
  ⟨finishCycle_wcrSame s u, by simp⟩

/-- A step that starts no sample does to the WCR what the sequencer's own step does (R117 to R120, R122). -/
theorem step_wcrEnds {s t : State} (hr : s.pins.rst = false) (h : step s = .next t)
    (hno : s.wcrState = .idle → ∀ k, issuedCommand s ≠ some (.wcrSample k)) : WcrEnds (wcrStep s (quiet s)) t := by
  obtain ⟨_, _, ⟨hr', _⟩ | ⟨_, u, rfl, hu⟩⟩ := step_cases h
  · cases hr.symm.trans hr'
  · obtain ⟨_, _, hcnt⟩ := access_env hu
    have hu : WcrSame (quiet s) u := access_wcrSame hno hu
    have hends := finishCycle_wcrEnds s u
    exact ⟨(wcrStep_wcrSame s hu).trans hends.toWcrSame, hends.port.trans (wcrStep_cnt_congr s hcnt)⟩

/-- While the WCR samples no access can start a sample (R116). -/
theorem step_wcrEnds_of_busy {s t : State} (hr : s.pins.rst = false) (h : step s = .next t) (hb : s.wcrState ≠ .idle) :
    WcrEnds (wcrStep s (quiet s)) t :=
  step_wcrEnds hr h fun hidle => absurd hidle hb

theorem step_wcrEnds_rdH1 {s t : State} (hr : s.pins.rst = false) (h : step s = .next t) (hs : s.wcrState = .rdH1) :
    WcrEnds (stepRdH1 s (quiet s)) t :=
  wcrStep_rdH1 hs (quiet s) ▸ step_wcrEnds_of_busy hr h (by simp [hs])

theorem step_wcrEnds_rdL {s t : State} (hr : s.pins.rst = false) (h : step s = .next t) (hs : s.wcrState = .rdL) :
    WcrEnds (stepRdL s (quiet s)) t :=
  wcrStep_rdL hs (quiet s) ▸ step_wcrEnds_of_busy hr h (by simp [hs])

theorem step_wcrEnds_rdH2 {s t : State} (hr : s.pins.rst = false) (h : step s = .next t) (hs : s.wcrState = .rdH2) :
    WcrEnds (stepRdH2 s (quiet s)) t :=
  wcrStep_rdH2 hs (quiet s) ▸ step_wcrEnds_of_busy hr h (by simp [hs])

theorem step_wcrEnds_rdL2 {s t : State} (hr : s.pins.rst = false) (h : step s = .next t) (hs : s.wcrState = .rdL2) :
    WcrEnds (stepRdL2 s (quiet s)) t :=
  wcrStep_rdL2 hs (quiet s) ▸ step_wcrEnds_of_busy hr h (by simp [hs])

/-- A step of an idle WCR that accepts a WCR_SAMPLE starts the sample and reads no counter (R116). -/
theorem step_accepts_sample {s t : State} {k : Kind} (hr : s.pins.rst = false) (h : step s = .next t)
    (hidle : s.wcrState = .idle) (hc : issuedCommand s = some (.wcrSample k)) : WcrEnds (sampleStarted k s) t := by
  obtain ⟨_, _, ⟨hr', _⟩ | ⟨_, u, rfl, hu⟩⟩ := step_cases h
  · cases hr.symm.trans hr'
  · obtain rfl := access_accepts_sample hidle hc hu
    have hends := finishCycle_wcrEnds s (sampleStarted k s)
    rwa [wcrStep_idle hidle] at hends

/-! ### Runs without reset -/

theorem step_upcoming {s t : State} (h : step s = .next t) : t.upcoming = s.upcoming.tail := by
  obtain ⟨_, _, ⟨_, rfl⟩ | ⟨_, u, rfl, _⟩⟩ := step_cases h
  · rfl
  · simp

/-- The inputs `k` cycles after a step are those `k + 1` cycles after its start. -/
theorem step_pinsAhead {s t : State} (h : step s = .next t) (k : Nat) : pinsAhead t k = pinsAhead s (k + 1) := by
  obtain ⟨hcycle, hpins, _⟩ := step_environment h
  cases k with
  | zero =>
    rw [pinsAhead, hpins, nextPins, pinsAhead]
    cases s.upcoming <;> rfl
  | succ j =>
    rw [pinsAhead, step_upcoming h, hcycle, List.getElem?_tail, pinsAhead]
    congr 2
    omega

theorem noResetFor_succ {s t : State} {n : Nat} (hn : noResetFor s (n + 1)) (h : step s = .next t) : noResetFor t n := by
  intro k hk
  rw [step_pinsAhead h]
  exact hn (k + 1) (by omega)

theorem noResetFor_now {s : State} {n : Nat} (hn : noResetFor s (n + 1)) : s.pins.rst = false :=
  hn 0 n.succ_pos

/-- The counter read a step adds to the trace is that of the counter port (R10). -/
theorem WcrEnds.counterReads {s w t : State} {r : CounterRead} (hw : WcrEnds w t) (h : step s = .next t)
    (hport : w.outputs.cnt = some r) :
    counterReads t.trace = Machine.counterReads s.trace ++ [(s.cycle, r.kind, r.half, r.data)] := by
  rw [step_counterReads h, hw.port, hport]
  rfl

end Sys2Proof.Machine
end

section
/-!
SUPPORT. A sample from its first high read on (R117 to R120, R124): its three reads in three cycles without reset, what they leave when the
highs agree and when they differ, and the re-read that completes it in the second case.
-/

namespace Sys2Proof.Machine

/-- The sample is complete with this value, the correction taken or not (R24 to R26). -/
structure SampleComplete (t : State) (value : Wide) (wrap : Bool) : Prop where
  valid : t.wcrValid = true
  idle : t.wcrState = .idle
  wrapped : t.wcrWrap = wrap
  result : t.wcrRes = value

/-- The value in this cycle of the counter that the WCR samples (R22). -/
def sampled (s : State) : Wide := counterValue s s.wcrKind

/-- The counter port and the kind after step W_RD_H2 do not depend on the highs (R119). -/
theorem stepRdH2_port (s0 s : State) :
    (stepRdH2 s0 s).outputs.cnt = some ⟨s0.wcrKind, .high, hiWord (sampled s0)⟩
      ∧ (stepRdH2 s0 s).wcrKind = s.wcrKind := by
  simp only [stepRdH2]
  split <;> exact ⟨rfl, rfl⟩

/-- The three steps from the cycle of the first high read: the sample keeps its kind, reads high, low and high, and with the second high is
complete or goes on to the re-read (R119). -/
structure ThreeReads (s s2 s3 s4 : State) : Prop where
  first : step s = .next s2
  second : step s2 = .next s3
  third : step s3 = .next s4
  kind2 : s2.wcrKind = s.wcrKind
  kind3 : s3.wcrKind = s.wcrKind
  kind4 : s4.wcrKind = s.wcrKind
  reads : counterReads s4.trace = counterReads s.trace
    ++ [(s.cycle, s.wcrKind, .high, hiWord (sampled s)), (s.cycle + 1, s.wcrKind, .low, loWord (sampled s2)),
        (s.cycle + 2, s.wcrKind, .high, hiWord (sampled s3))]
  agree : hiWord (sampled s) = hiWord (sampled s3) →
    SampleComplete s4 (wideOf (hiWord (sampled s)) (loWord (sampled s2))) s.wcrWrap
  differ : hiWord (sampled s) ≠ hiWord (sampled s3) →
    s4.wcrState = .rdL2 ∧ s4.wcrWrap = true ∧ s4.wcrValid = s.wcrValid ∧ s4.wcrH2 = hiWord (sampled s3)

/-- From W_RD_H1 a sample makes its three reads, in cycles without reset and whatever the host does. -/
theorem exists_threeReads {s : State} (hd : fsmDefined s = true) (hs : s.wcrState = .rdH1) (hn : noResetFor s 3) :
    ∃ s2 s3 s4, ThreeReads s s2 s3 s4 := by
  obtain ⟨s2, first⟩ := step_answers hd
  obtain ⟨s3, second⟩ := step_answers (step_defined first)
  obtain ⟨s4, third⟩ := step_answers (step_defined second)
  have hn2 := noResetFor_succ hn first
  have hn3 := noResetFor_succ hn2 second
  have w2 := step_wcrEnds_rdH1 (noResetFor_now hn) first hs
  have w3 := step_wcrEnds_rdL (noResetFor_now hn2) second w2.wcrState
  have w4 := step_wcrEnds_rdH2 (noResetFor_now hn3) third w3.wcrState
  obtain ⟨port4, kindStep⟩ := stepRdH2_port s3 (quiet s3)
  have kind2 : s2.wcrKind = s.wcrKind := w2.wcrKind
  have kind3 : s3.wcrKind = s.wcrKind := w3.wcrKind.trans kind2
  have high1 : s3.wcrH1 = hiWord (sampled s) := w3.wcrH1.trans w2.wcrH1
  have low : s3.wcrL1 = loWord (sampled s2) := w3.wcrL1
  refine ⟨s2, s3, s4, first, second, third, kind2, kind3, w4.wcrKind.trans (kindStep.trans kind3), ?reads,
    fun heq => ?agree, fun hne => ?differ⟩
  case reads =>
    obtain ⟨cycle2, _⟩ := step_environment first
    obtain ⟨cycle3, _⟩ := step_environment second
    have port2 : (stepRdH1 s (quiet s)).outputs.cnt = some ⟨s.wcrKind, .high, hiWord (sampled s)⟩ := rfl
    have port3 : (stepRdL s2 (quiet s2)).outputs.cnt = some ⟨s2.wcrKind, .low, loWord (sampled s2)⟩ := rfl
    rw [w4.counterReads third port4, w3.counterReads second port3, w2.counterReads first port2, cycle3, cycle2,
      kind3, kind2, List.append_assoc, List.append_assoc]
    rfl
  case agree =>
    rw [stepRdH2_of_eq (heq.symm.trans high1.symm)] at w4
    refine ⟨w4.wcrValid, w4.wcrState, ?_, ?_⟩
    · exact w4.wcrWrap.trans (w3.wcrWrap.trans w2.wcrWrap)
    · rw [← high1, ← low]
      exact w4.wcrRes
  case differ =>
    rw [stepRdH2_of_ne fun heq => hne (high1.symm.trans heq.symm)] at w4
    exact ⟨w4.wcrState, w4.wcrWrap, w4.wcrValid.trans (w3.wcrValid.trans w2.wcrValid), w4.wcrH2⟩

/-- The re-read completes a sample with the second high and the low it reads (R120). -/
theorem exists_reread {s : State} (hd : fsmDefined s = true) (hs : s.wcrState = .rdL2) (hr : s.pins.rst = false) :
    ∃ t, step s = .next t ∧ SampleComplete t (wideOf s.wcrH2 (loWord (sampled s))) s.wcrWrap
      ∧ counterReads t.trace = counterReads s.trace ++ [(s.cycle, s.wcrKind, .low, loWord (sampled s))] := by
  obtain ⟨t, ht⟩ := step_answers hd
  have w := step_wcrEnds_rdL2 hr ht hs
  exact ⟨t, ht, ⟨w.wcrValid, w.wcrState, w.wcrWrap, w.wcrRes⟩, w.counterReads ht rfl⟩

/-- The cycle after the three reads of a sample. -/
theorem ThreeReads.cycle {s s2 s3 s4 : State} (r : ThreeReads s s2 s3 s4) : s4.cycle = s.cycle + 3 := by
  obtain ⟨cycle2, _⟩ := step_environment r.first
  obtain ⟨cycle3, _⟩ := step_environment r.second
  obtain ⟨cycle4, _⟩ := step_environment r.third
  rw [cycle4, cycle3, cycle2]

theorem ThreeReads.reaches {s s2 s3 s4 : State} (r : ThreeReads s s2 s3 s4) : reaches s 3 s4 :=
  (reaches_succ r.first).mpr ((reaches_succ r.second).mpr ((reaches_succ r.third).mpr (reaches_zero.mpr rfl)))

theorem ThreeReads.noResetFor {s s2 s3 s4 : State} {n : Nat} (r : ThreeReads s s2 s3 s4) (hn : noResetFor s (n + 3)) :
    noResetFor s4 n :=
  noResetFor_succ (noResetFor_succ (noResetFor_succ hn r.first) r.second) r.third

/-- When the highs differ, the cycle after the three reads completes the sample by the re-read (R119, R120). -/
theorem ThreeReads.exists_reread {s s2 s3 s4 : State} (r : ThreeReads s s2 s3 s4) (hn : Machine.noResetFor s 4)
    (hne : hiWord (sampled s) ≠ hiWord (sampled s3)) :
    ∃ t, step s4 = .next t ∧ SampleComplete t (wideOf (hiWord (sampled s3)) (loWord (sampled s4))) true
      ∧ counterReads t.trace = counterReads s4.trace ++ [(s.cycle + 3, s.wcrKind, .low, loWord (sampled s4))] := by
  obtain ⟨hstate, hwrap, _, hhigh⟩ := r.differ hne
  rw [← hwrap, ← hhigh, ← r.cycle, ← r.kind4]
  exact Machine.exists_reread (step_defined r.third) hstate (noResetFor_now (r.noResetFor hn))

/-! ### The two halves of an advancing counter (R125 to R129) -/

theorem wideOf_hiWord_loWord (x : Wide) : wideOf (hiWord x) (loWord x) = x :=
  (BitVec.extractLsb'_append_extractLsb'_eq_extractLsb' rfl).trans BitVec.extractLsb'_eq_self

theorem hiWord_toNat (x : Wide) : (hiWord x).toNat = x.toNat / 2 ^ 32 := by
  rw [hiWord, BitVec.extractLsb'_toNat, Nat.shiftRight_eq_div_pow]
  omega

/-- A counter that advances by less than 2^32 and has the same high word before and after had it in between (R127). -/
theorem hiWord_between {x d e : Wide} (hsmall : d.toNat + e.toNat < 2 ^ 32) (heq : hiWord x = hiWord (x + d + e)) :
    hiWord x = hiWord (x + d) := by
  have heq' := congrArg BitVec.toNat heq
  apply BitVec.eq_of_toNat_eq
  simp only [hiWord_toNat, BitVec.toNat_add] at heq' ⊢
  omega

/-- A counter that advances by at most 2^32 carries into its high word at most once (R128). -/
theorem hiWord_after_carry {x d e f : Wide} (hsmall : d.toNat + e.toNat + f.toNat ≤ 2 ^ 32)
    (hne : hiWord x ≠ hiWord (x + d + e)) : hiWord (x + d + e) = hiWord (x + d + e + f) := by
  have hne' : (hiWord x).toNat ≠ (hiWord (x + d + e)).toNat := fun h => hne (BitVec.eq_of_toNat_eq h)
  apply BitVec.eq_of_toNat_eq
  simp only [hiWord_toNat, BitVec.toNat_add] at hne' ⊢
  omega

section Sound

variable {s s2 s3 s4 : State} (r : ThreeReads s s2 s3 s4)
include r

/-- The values of the sampled counter in the four cycles of a sample (R19). -/
theorem ThreeReads.sampled_advances :
    sampled s2 = sampled s + counterAdvance s s.wcrKind ∧ sampled s3 = sampled s2 + counterAdvance s2 s.wcrKind
      ∧ sampled s4 = sampled s3 + counterAdvance s3 s.wcrKind := by
  simp only [sampled, r.kind2, r.kind3, r.kind4]
  exact ⟨step_counterValue r.first _, step_counterValue r.second _, step_counterValue r.third _⟩

/-- The counter advances by at most A_MAX in each of the three cycles (R19, R44). -/
theorem ThreeReads.advances_le :
    (counterAdvance s s.wcrKind).toNat ≤ s.params.aMax.toNat ∧ (counterAdvance s2 s.wcrKind).toNat ≤ s.params.aMax.toNat
      ∧ (counterAdvance s3 s.wcrKind).toNat ≤ s.params.aMax.toNat := by
  obtain ⟨_, _, params2⟩ := step_environment r.first
  obtain ⟨_, _, params3⟩ := step_environment r.second
  have le2 := counterAdvance_le_aMax s2 s.wcrKind
  have le3 := counterAdvance_le_aMax s3 s.wcrKind
  rw [params3, params2] at le3
  rw [params2] at le2
  exact ⟨counterAdvance_le_aMax s s.wcrKind, le2, le3⟩

/-- With equal highs the three reads are the value of the cycle of the low read (R127). -/
theorem ThreeReads.sound_of_agree (hmax : 3 * s.params.aMax.toNat ≤ 2 ^ 32) (heq : hiWord (sampled s) = hiWord (sampled s3)) :
    wideOf (hiWord (sampled s)) (loWord (sampled s2)) = sampled s2 := by
  obtain ⟨val2, val3, _⟩ := r.sampled_advances
  obtain ⟨le1, le2, _⟩ := r.advances_le
  have hhigh : hiWord (sampled s) = hiWord (sampled s2) := by
    rw [val3, val2] at heq
    rw [val2]
    exact hiWord_between (by omega) heq
  rw [hhigh, wideOf_hiWord_loWord]

/-- With unequal highs the second high and the re-read low are the value of the cycle of the re-read (R128). -/
theorem ThreeReads.sound_of_differ (hmax : 3 * s.params.aMax.toNat ≤ 2 ^ 32) (hne : hiWord (sampled s) ≠ hiWord (sampled s3)) :
    wideOf (hiWord (sampled s3)) (loWord (sampled s4)) = sampled s4 := by
  obtain ⟨val2, val3, val4⟩ := r.sampled_advances
  obtain ⟨le1, le2, le3⟩ := r.advances_le
  have hhigh : hiWord (sampled s3) = hiWord (sampled s4) := by
    rw [val3, val2] at hne
    rw [val4, val3, val2]
    exact hiWord_after_carry (by omega) hne
  rw [hhigh, wideOf_hiWord_loWord]

end Sound

end Sys2Proof.Machine
end

section
/-!
CERTIFICATES. The statements of 41_wcr.md: the start of a sample (R116), the four sequencer steps (R117 to R120), the idle WCR (R122), the
reads of a sample (R124), its soundness (R125 to R129), and the independence of the two units (R134).
-/

namespace Sys2Proof.Machine

/-- Settles O45: two steps with the same reset and access are two reset cycles, or the access and the units' own steps take states that agree on
a unit to states that agree on it; the counters add the same draws in either case. -/
theorem unitsAreIndependent : Obligations.UnitsAreIndependent := by
  intro s s' t t' h h' hr hb
  refine ⟨fun hmax hcycle hinstret ha => ?_, fun hp hz ha => ?_⟩
  · refine wcrAgree_of_same ?_ fun k => ?_
    · rcases step_cases_pair h h' hr with ⟨rfl, rfl⟩ | ⟨u, u', rfl, rfl, hu, hu'⟩
      · exact resetCycle_wcrSame s s'
      · exact finishCycle_wcr_congr ha (access_wcr_congr hb ha.same hu hu')
    · rw [step_counterValue h, step_counterValue h', ha.counterValue, counterAdvance_congr hmax hcycle hinstret]
  · rcases step_cases_pair h h' hr with ⟨rfl, rfl⟩ | ⟨u, u', rfl, rfl, hu, hu'⟩
    · exact resetCycle_rr_congr hp
    · exact finishCycle_rr_congr ha hp hz (access_rr_congr hb ha hp hz hu hu')

/-- Settles O41: in each of the four states the step ends with the registers and the port of the sequencer's step. -/
theorem wcrSequencerSteps : Obligations.WcrSequencerSteps := by
  intro s hr hd
  obtain ⟨t, ht⟩ := step_answers hd
  refine ⟨t, ht, fun hs => ?rdH1, fun hs => ?rdL, fun hs => ?rdH2, fun hs => ?rdL2⟩
  case rdH1 =>
    have w := step_wcrEnds_rdH1 hr ht hs
    exact ⟨w.wcrH1, w.wcrState, w.wcrH1 ▸ w.port, w.wcrKind, w.wcrL1, w.wcrH2, w.wcrL2, w.wcrRes, w.wcrValid, w.wcrWrap⟩
  case rdL =>
    have w := step_wcrEnds_rdL hr ht hs
    exact ⟨w.wcrL1, w.wcrState, w.wcrL1 ▸ w.port, w.wcrKind, w.wcrH1, w.wcrH2, w.wcrL2, w.wcrRes, w.wcrValid, w.wcrWrap⟩
  case rdH2 =>
    have w := step_wcrEnds_rdH2 hr ht hs
    by_cases heq : hiWord (counterValue s s.wcrKind) = s.wcrH1
    · rw [stepRdH2_of_eq heq] at w
      exact ⟨w.wcrH2, w.wcrH2 ▸ w.port, w.wcrKind, w.wcrH1, w.wcrL1, w.wcrL2,
        fun _ => ⟨w.wcrRes, w.wcrValid, w.wcrState, w.wcrWrap⟩, fun hne => absurd (w.wcrH2.trans heq) hne⟩
    · rw [stepRdH2_of_ne heq] at w
      exact ⟨w.wcrH2, w.wcrH2 ▸ w.port, w.wcrKind, w.wcrH1, w.wcrL1, w.wcrL2,
        fun hh => absurd (w.wcrH2.symm.trans hh) heq, fun _ => ⟨w.wcrWrap, w.wcrState, w.wcrRes, w.wcrValid⟩⟩
  case rdL2 =>
    have w := step_wcrEnds_rdL2 hr ht hs
    exact ⟨w.wcrL2, w.wcrL2 ▸ w.wcrRes, w.wcrL2 ▸ w.port, w.wcrValid, w.wcrState, w.wcrKind, w.wcrH1, w.wcrL1, w.wcrH2,
      w.wcrWrap⟩

/-- Settles O42: the access starts no sample, and the sequencer of an idle WCR makes no step. -/
theorem idleWcrKeepsItsRegisters : Obligations.IdleWcrKeepsItsRegisters := by
  intro s t hr hidle hno h
  have w := step_wcrEnds hr h fun _ => hno
  rw [wcrStep_idle hidle] at w
  exact ⟨w.port, w.wcrState.trans hidle, w.wcrKind, w.wcrH1, w.wcrL1, w.wcrH2, w.wcrL2, w.wcrRes, w.wcrValid, w.wcrWrap⟩

/-- Settles O43: the accepting step makes no read, the three steps after it make theirs, and unequal highs add the re-read. -/
theorem sampleMakesThreeOrFourReads : Obligations.SampleMakesThreeOrFourReads := by
  intro s k hd hidle hn hc
  obtain ⟨s1, start⟩ := step_answers hd
  have w1 := step_accepts_sample (noResetFor_now hn) start hidle hc
  have hn1 : noResetFor s1 4 := noResetFor_succ hn start
  obtain ⟨s2, s3, s4, r⟩ := exists_threeReads (step_defined start) w1.wcrState fun j hj => hn1 j (by omega)
  obtain ⟨cycle1, _⟩ := step_environment start
  have kind1 : s1.wcrKind = k := w1.wcrKind
  have reads1 : counterReads s1.trace = counterReads s.trace := by
    rw [step_counterReads start, w1.port]
    exact List.append_nil _
  have reads4 := r.reads
  rw [reads1, cycle1, kind1] at reads4
  refine ⟨hiWord (sampled s1), loWord (sampled s2), hiWord (sampled s3), s4, (reaches_succ start).mpr r.reaches, ?_⟩
  by_cases heq : hiWord (sampled s1) = hiWord (sampled s3)
  · have complete := r.agree heq
    exact .inl ⟨heq, complete.valid, complete.idle, complete.result, reads4⟩
  · obtain ⟨u, hu, complete, reads⟩ := r.exists_reread hn1 heq
    obtain ⟨_, _, valid4, _⟩ := r.differ heq
    rw [reads4, cycle1, kind1, List.append_assoc] at reads
    exact .inr ⟨heq, valid4.trans w1.wcrValid, loWord (sampled s4), u, hu, complete.valid, complete.idle, complete.result,
      reads⟩

/-- Settles O44: with so small an advance the high word carries at most once over the four reads. -/
theorem noSampleIsTorn : Obligations.NoSampleIsTorn := by
  intro s hd hs hwrap hvalid hn hmax
  obtain ⟨s2, s3, s4, r⟩ := exists_threeReads hd hs fun j hj => hn j (by omega)
  refine ⟨s2, s3, s4, r.first, r.second, r.third, ?_⟩
  by_cases heq : hiWord (sampled s) = hiWord (sampled s3)
  · have complete := r.agree heq
    rw [r.sound_of_agree hmax heq, sampled, r.kind2] at complete
    exact .inl ⟨complete.valid, complete.idle, complete.wrapped.trans hwrap, complete.result⟩
  · obtain ⟨u, hu, complete, _⟩ := r.exists_reread hn heq
    obtain ⟨_, _, valid4, _⟩ := r.differ heq
    rw [r.sound_of_differ hmax heq, sampled, r.kind4] at complete
    exact .inr ⟨valid4.trans hvalid, u, hu, complete.valid, complete.idle, complete.wrapped, complete.result⟩

/-- Settles O23: the two branches of `execWcrSample`. -/
theorem wcrSampleStartsASample : Obligations.WcrSampleStartsASample :=
  ⟨rfl, rfl, fun _ _ => ⟨fun hidle => if_pos hidle, fun hbusy => if_neg hbusy⟩⟩

end Sys2Proof.Machine
end

section
/-!
SUPPORT. The polarity (R135, R157): two states that differ in ACTIVE_LOW and what it reaches are a state and its image under `repolarized`, and
every operation of a cycle, on such a pair, drives the same pulse and the same counter port and ends in such a pair. That complementary OUT
bytes stay complementary under opposite polarities is carried along as the clause `out` of `Mirrors`.
-/

namespace Sys2Proof.Machine

/-- `s` with this ACTIVE_LOW, this OUT, these outputs and this trace. -/
def repolarized (b : Bool) (v : Byte) (o : Outputs) (es : List Event) (s : State) : State :=
  { s with params := { s.params with activeLow := b }, out := v, outputs := o, trace := es }

theorem samePath_iff {s s' : State} : samePath s s' ↔ ∃ b v o es, s' = repolarized b v o es s :=
  ⟨fun h => ⟨_, _, _, _, h⟩, fun ⟨_, _, _, _, h⟩ => by rw [h]; rfl⟩

theorem samePath.fsmDefined {s s' : State} (h : samePath s s') : fsmDefined s' = fsmDefined s := by
  rw [h]
  rfl

/-- Opposite polarities give complementary bytes (R135). -/
theorem phys_of_opposite {p p' : Params} (h : p'.activeLow = !p.activeLow) (v : Byte) : phys p' v = ~~~phys p v := by
  unfold phys
  rw [h]
  cases p.activeLow <;> simp

/-- Two states on the same path that drive the same pulse and the same counter port, and, if `flipped`, have complementary OUT bytes. -/
structure Mirrors (flipped : Prop) (s s' : State) : Prop where
  path : samePath s s'
  pulse : s'.outputs.outWe = s.outputs.outWe
  port : s'.outputs.cnt = s.outputs.cnt
  out : flipped → s'.out = ~~~s.out

section Operations

variable {flipped : Prop} {s s' s0 s0' : State}

theorem quiet_mirrors (hp : samePath s s') (hout : flipped → s'.out = ~~~s.out) : Mirrors flipped (quiet s) (quiet s') := by
  obtain ⟨b, v, o, es, rfl⟩ := samePath_iff.mp hp
  exact ⟨rfl, rfl, rfl, hout⟩

/-- A device write of the same logical byte: the two physical bytes are complementary if the polarities are opposite (R37, R135). -/
theorem devWrite_mirrors (hflip : flipped → s0'.params.activeLow = !s0.params.activeLow) (w : Byte) (h : Mirrors flipped s s') :
    Mirrors flipped (devWrite (phys s0.params w) s) (devWrite (phys s0'.params w) s') := by
  obtain ⟨b, v, o, es, rfl⟩ := samePath_iff.mp h.path
  exact ⟨rfl, rfl, h.port, fun hf => phys_of_opposite (hflip hf) w⟩

/-- The entry of a frame shows the physical byte of the same logical one, for the same dwell (R141). -/
theorem enterFrame_mirrors (h0 : samePath s0 s0') (hflip : flipped → s0'.params.activeLow = !s0.params.activeLow)
    (slot : BitVec 1) (n : BitVec 3) (h : Mirrors flipped s s') :
    Mirrors flipped (enterFrame s0 slot n s) (enterFrame s0' slot n s') := by
  obtain ⟨b, v, o, es, rfl⟩ := samePath_iff.mp h.path
  obtain ⟨b0, v0, o0, es0, rfl⟩ := samePath_iff.mp h0
  exact ⟨rfl, rfl, h.port, fun hf => phys_of_opposite (hflip hf) _⟩

/-! ### The host access -/

theorem setErrBusy_mirrors (h : Mirrors flipped s s') : Mirrors flipped (setErrBusy s) (setErrBusy s') := by
  obtain ⟨b, v, o, es, rfl⟩ := samePath_iff.mp h.path
  exact ⟨rfl, h.pulse, h.port, h.out⟩

/-- An accepted RR command makes the same of both states, the physical byte apart (R140 to R144, R163). -/
theorem rrAccepted_mirrors (hp : samePath s s') (hflip : flipped → s'.params.activeLow = !s.params.activeLow)
    (hout : flipped → s'.out = ~~~s.out) {c : Cmd} (hc : isRrCommand c = true) :
    Mirrors flipped (rrAccepted c s) (rrAccepted c s') := by
  have hresp : Mirrors flipped (respondWrite s) (respondWrite s') := quiet_mirrors hp hout
  have hp' := hp
  obtain ⟨b, v, o, es, rfl⟩ := samePath_iff.mp hp
  cases c with
  | rrIdle => exact devWrite_mirrors hflip 0x00#8 hresp
  | rrShow slot => exact enterFrame_mirrors hp' hflip slot 7#3 ⟨rfl, rfl, rfl, hout⟩
  | rrSeq cnt loop => exact enterFrame_mirrors hp' hflip 0#1 7#3 ⟨rfl, rfl, rfl, hout⟩
  | rrDone =>
    have hwrite := devWrite_mirrors hflip 0xFF#8 hresp
    exact ⟨rfl, hwrite.pulse, hwrite.port, hwrite.out⟩
  | nop | wcrSample | clrStatus | illegal => cases hc

/-- Both outcomes are next states, and these mirror each other. -/
def BothAnswer (flipped : Prop) (r r' : Result) : Prop :=
  ∃ u u', r = .next u ∧ r' = .next u' ∧ Mirrors flipped u u'

theorem bothAnswer_next (h : Mirrors flipped s s') : BothAnswer flipped (.next s) (.next s') :=
  ⟨s, s', rfl, rfl, h⟩

/-- A command that the state of its unit accepts or drops, where both states have the same units. -/
theorem bothAnswer_ite {p : Prop} [Decidable p] {a a' d d' : State} (ha : Mirrors flipped a a') (hd : Mirrors flipped d d') :
    BothAnswer flipped (if p then .next a else .next d) (if p then .next a' else .next d') := by
  split
  · exact bothAnswer_next ha
  · exact bothAnswer_next hd

/-- An issued command reads neither the polarity, but for the byte of a device write, nor OUT, the outputs or the trace. -/
theorem issue_mirrors (hp : samePath s s') (hflip : flipped → s'.params.activeLow = !s.params.activeLow)
    (hout : flipped → s'.out = ~~~s.out) (c : Cmd) : BothAnswer flipped (issue c s) (issue c s') := by
  have hresp : Mirrors flipped (respondWrite s) (respondWrite s') := quiet_mirrors hp hout
  have hdropped := setErrBusy_mirrors hresp
  have haccepted := fun hc : isRrCommand c = true => rrAccepted_mirrors hp hflip hout hc
  obtain ⟨b, v, o, es, rfl⟩ := samePath_iff.mp hp
  cases c with
  | nop => exact bothAnswer_next hresp
  | clrStatus | illegal => exact bothAnswer_next ⟨rfl, rfl, rfl, hout⟩
  | wcrSample k =>
    have hstarted : Mirrors flipped (sampleStarted k s) (sampleStarted k (repolarized b v o es s)) := ⟨rfl, rfl, rfl, hout⟩
    exact bothAnswer_ite (p := s.wcrState = .idle) hstarted hdropped
  | rrIdle | rrShow | rrSeq | rrDone => exact bothAnswer_ite (p := s.rrState = .idle) (haccepted rfl) hdropped

/-- The same of every instruction: reads differ in what they answer alone, and a value word is the host's (R157). -/
theorem exec_mirrors (hp : samePath s s') (hflip : flipped → s'.params.activeLow = !s.params.activeLow)
    (hout : flipped → s'.out = ~~~s.out) (i : Instr) : BothAnswer flipped (exec i s) (exec i s') := by
  have hissue := issue_mirrors hp hflip hout
  have hdropped : Mirrors flipped (setErrBusy (respondWrite s)) (setErrBusy (respondWrite s')) :=
    setErrBusy_mirrors (quiet_mirrors hp hout)
  cases i with
  | wrCmd w => exact hissue (decodeCommand w)
  | nop => exact hissue .nop
  | wcrSample k => exact hissue (.wcrSample k)
  | rrIdle => exact hissue .rrIdle
  | rrShow slot => exact hissue (.rrShow slot)
  | rrSeq cnt loop => exact hissue (.rrSeq cnt loop)
  | rrDone => exact hissue .rrDone
  | clrStatus => exact hissue .clrStatus
  | illegal w => exact hissue (.illegal w)
  | wrRrVal0Lo | wrRrVal0Hi | wrRrVal1Lo | wrRrVal1Hi =>
    obtain ⟨b, v, o, es, rfl⟩ := samePath_iff.mp hp
    exact bothAnswer_ite (p := s.rrState = .idle) ⟨rfl, rfl, rfl, hout⟩ hdropped
  | _ =>
    obtain ⟨b, v, o, es, rfl⟩ := samePath_iff.mp hp
    exact bothAnswer_next ⟨rfl, rfl, rfl, hout⟩

theorem access_mirrors {u u' : State} (hp : samePath s s') (hflip : flipped → s'.params.activeLow = !s.params.activeLow)
    (hout : flipped → s'.out = ~~~s.out) (h : AccessMakes s u) (h' : AccessMakes s' u') : Mirrors flipped u u' := by
  have hfetch : fetch s' = fetch s := by
    rw [hp]
    rfl
  rcases h with ⟨hn, rfl⟩ | ⟨i, hf, hx⟩ <;> rcases h' with ⟨hn', rfl⟩ | ⟨i', hf', hx'⟩
  · exact quiet_mirrors hp hout
  · cases hn.symm.trans (hfetch.symm.trans hf')
  · cases hf.symm.trans (hfetch.symm.trans hn')
  · cases hf.symm.trans (hfetch.symm.trans hf')
    obtain ⟨w, w', hw, hw', hm⟩ := exec_mirrors hp hflip hout i
    cases hw.symm.trans hx
    cases hw'.symm.trans hx'
    exact hm

/-! ### The units' own steps -/

theorem samePath.wcrAgree (h : samePath s s') : WcrAgree s s' := by
  obtain ⟨b, v, o, es, rfl⟩ := samePath_iff.mp h
  exact ⟨rfl, rfl, rfl, rfl, rfl, rfl, rfl, rfl, rfl, rfl, rfl⟩

/-- The WCR's step does not touch the display (R134). -/
theorem wcrStep_mirrors (h0 : samePath s0 s0') (h : Mirrors flipped s s') :
    Mirrors flipped (wcrStep s0 s) (wcrStep s0' s') := by
  rw [← wcrStep_reads_wcr h0.wcrAgree]
  obtain ⟨b, v, o, es, rfl⟩ := samePath_iff.mp h.path
  unfold wcrStep
  cases s0.wcrState with
  | idle | undef5 | undef6 | undef7 => exact h
  | rdH1 => exact ⟨rfl, h.pulse, rfl, h.out⟩
  | rdL => exact ⟨rfl, h.pulse, rfl, h.out⟩
  | rdH2 =>
    simp only [stepRdH2]
    split <;> exact ⟨rfl, h.pulse, rfl, h.out⟩
  | rdL2 => exact ⟨rfl, h.pulse, rfl, h.out⟩

theorem endOfValue_mirrors (s0 : State) (h : Mirrors flipped s s') :
    Mirrors flipped (endOfValue s0 s) (endOfValue s0 s') := by
  obtain ⟨b, v, o, es, rfl⟩ := samePath_iff.mp h.path
  unfold endOfValue
  split <;> exact ⟨rfl, h.pulse, h.port, h.out⟩

/-- An exit of the RR takes the same branch in both states (R147 to R150, R165). -/
theorem rrExit_mirrors (h0 : samePath s0 s0') (hflip : flipped → s0'.params.activeLow = !s0.params.activeLow)
    (h : Mirrors flipped s s') : Mirrors flipped (rrExit s0 s) (rrExit s0' s') := by
  have hframe := fun slot n => enterFrame_mirrors h0 hflip slot n h
  have hidle : Mirrors flipped (devWrite (idlePattern s0.params) s) (devWrite (idlePattern s0'.params) s') :=
    devWrite_mirrors hflip 0x00#8 h
  have hgap : Mirrors flipped { s with rrVidx := nextSlot s0 } { s' with rrVidx := nextSlot s0 } := by
    obtain ⟨b, v, o, es, rfl⟩ := samePath_iff.mp h.path
    exact ⟨rfl, h.pulse, h.port, h.out⟩
  have hshow := enterFrame_mirrors h0 hflip (nextSlot s0) 7#3 hgap
  obtain ⟨b, v, o, es, rfl⟩ := samePath_iff.mp h.path
  obtain ⟨b0, v0, o0, es0, rfl⟩ := samePath_iff.mp h0
  have hstate : (repolarized b0 v0 o0 es0 s0).rrState = s0.rrState := rfl
  unfold rrExit
  rw [hstate]
  cases s0.rrState with
  | idle | halted | undef6 | undef7 => exact h
  | frame =>
    have hn : (repolarized b0 v0 o0 es0 s0).rrFrame = s0.rrFrame := rfl
    simp only [exitFrame, hn]
    split
    · exact hframe _ _
    · exact ⟨rfl, h.pulse, h.port, h.out⟩
  | pause =>
    have hend : endOfValue (repolarized b0 v0 o0 es0 s0) = endOfValue s0 := rfl
    rw [exitPause, exitPause, hend]
    exact endOfValue_mirrors s0 hidle
  | gap => exact hshow
  | doneWait => exact ⟨rfl, h.pulse, h.port, h.out⟩

theorem rrStep_mirrors (h0 : samePath s0 s0') (hflip : flipped → s0'.params.activeLow = !s0.params.activeLow)
    (h : Mirrors flipped s s') : Mirrors flipped (rrStep s0 s) (rrStep s0' s') := by
  have hstate : s0'.rrState = s0.rrState := by
    rw [h0]
  have htimer : s0'.rrTimer = s0.rrTimer := by
    rw [h0]
  unfold rrStep
  rw [hstate, htimer]
  split
  · split
    · obtain ⟨b, v, o, es, rfl⟩ := samePath_iff.mp h.path
      rw [timerTick, timerTick, htimer]
      exact ⟨rfl, h.pulse, h.port, h.out⟩
    · exact rrExit_mirrors h0 hflip h
  · exact h

/-! ### The cycle -/

theorem finishCycle_mirrors (h0 : samePath s0 s0') (hflip : flipped → s0'.params.activeLow = !s0.params.activeLow)
    (h : Mirrors flipped s s') : Mirrors flipped (finishCycle s0 s) (finishCycle s0' s') := by
  have hunits := rrStep_mirrors h0 hflip (wcrStep_mirrors h0 h)
  unfold finishCycle
  generalize rrStep s0 (wcrStep s0 s) = w at hunits ⊢
  generalize rrStep s0' (wcrStep s0' s') = w' at hunits ⊢
  obtain ⟨b, v, o, es, rfl⟩ := samePath_iff.mp hunits.path
  obtain ⟨b0, v0, o0, es0, rfl⟩ := samePath_iff.mp h0
  exact ⟨rfl, hunits.pulse, hunits.port, hunits.out⟩

/-- A reset cycle puts each build's IDLE_PATTERN on OUT (R201). -/
theorem resetCycle_mirrors (hp : samePath s s') (hflip : flipped → s'.params.activeLow = !s.params.activeLow) :
    Mirrors flipped (resetCycle s) (resetCycle s') := by
  obtain ⟨b, v, o, es, rfl⟩ := samePath_iff.mp hp
  exact ⟨rfl, rfl, rfl, fun hf => phys_of_opposite (hflip hf) 0x00#8⟩

/-- Two states on the same path step alike (R157). -/
theorem step_mirrors {t : State} (hp : samePath s s') (hflip : flipped → s'.params.activeLow = !s.params.activeLow)
    (hout : flipped → s'.out = ~~~s.out) (h : step s = .next t) : ∃ t', step s' = .next t' ∧ Mirrors flipped t t' := by
  obtain ⟨hw, hx, _⟩ := step_cases h
  obtain ⟨t', h'⟩ := step_answers (hp.fsmDefined.trans (fsmDefined_iff.mpr ⟨hw, hx⟩))
  have hrst : s.pins.rst = s'.pins.rst := by
    rw [hp]
  refine ⟨t', h', ?_⟩
  rcases step_cases_pair h h' hrst with ⟨rfl, rfl⟩ | ⟨u, u', rfl, rfl, hu, hu'⟩
  · exact resetCycle_mirrors hp hflip
  · exact finishCycle_mirrors hp hflip (access_mirrors hp hflip hout hu hu')

end Operations

end Sys2Proof.Machine
end

section
/-!
SUPPORT. The delays and the bytes of a display (R135, R137, R138, R146): the delays as exact numbers, a frame's byte as a shift of the value, and
the value rebuilt from its eight bytes.
-/

namespace Sys2Proof.Machine

/-- The product of two 32-bit factors does not overflow 64 bits (R137). -/
theorem word_mul_word_lt (a b : Word) : a.toNat * b.toNat < 18446744073709551616 :=
  calc a.toNat * b.toNat < 2 ^ 32 * 2 ^ 32 := Nat.mul_lt_mul'' a.isLt b.isLt
    _ = 18446744073709551616 := by norm_num

theorem delayTicks_calibrated {p : Params} (h : p.delayMode = .calibrated) (clkHz ms : Word) :
    (delayTicks p clkHz ms).toNat = ms.toNat * clkHz.toNat / 1000 := by
  simp [delayTicks, h, Nat.mod_eq_of_lt (word_mul_word_lt ms clkHz)]

theorem delayTicks_uncalibrated {p : Params} (h : p.delayMode = .uncalibrated) (clkHz ms : Word) :
    (delayTicks p clkHz ms).toNat = ms.toNat * p.uncalTicksPerMs.toNat := by
  simp [delayTicks, h, Nat.mod_eq_of_lt (word_mul_word_lt ms p.uncalTicksPerMs)]

theorem holdCycles_toNat (p : Params) (clkHz ms : Word) :
    (holdCycles p clkHz ms).toNat = max (delayTicks p clkHz ms).toNat 1 := by
  unfold holdCycles
  split <;> bv_omega

/-- A hold lasts for its timer value and the cycle of its exit (R138). -/
theorem hold_toNat_succ (s : State) (ms : Word) : (hold s ms).toNat + 1 = (holdCycles s.params s.pins.clkHz ms).toNat := by
  have hpos : 1 ≤ (holdCycles s.params s.pins.clkHz ms).toNat := by
    rw [holdCycles_toNat]
    exact le_max_right _ _
  unfold hold
  bv_omega

theorem hold_toNat (s : State) (ms : Word) : (hold s ms).toNat = max (delayTicks s.params s.pins.clkHz ms).toNat 1 - 1 := by
  rw [← holdCycles_toNat, ← hold_toNat_succ, Nat.add_sub_cancel]

theorem frameByte_eq_shift (v : Wide) (n : BitVec 3) : frameByte v n = (v >>> (8 * n.toNat)).setWidth 8 := rfl

/-- `phys` is its own inverse (R155). -/
theorem phys_phys (p : Params) (v : Byte) : phys p (phys p v) = v := by
  unfold phys
  cases p.activeLow <;> simp

/-- A byte put in its place does not overflow 64 bits. -/
theorem frameByte_in_place (v : Wide) (n : BitVec 3) :
    ((frameByte v n).setWidth 64 <<< (8 * n.toNat) : Wide).toNat = v.toNat / 2 ^ (8 * n.toNat) % 256 * 2 ^ (8 * n.toNat) := by
  have hplace : 2 ^ (8 * n.toNat) ≤ 2 ^ 56 := Nat.pow_le_pow_right (by decide) (by bv_omega)
  have hbyte : v.toNat / 2 ^ (8 * n.toNat) % 256 < 256 := Nat.mod_lt _ (by decide)
  have hfits : v.toNat / 2 ^ (8 * n.toNat) % 256 * 2 ^ (8 * n.toNat) < 2 ^ 64 :=
    calc v.toNat / 2 ^ (8 * n.toNat) % 256 * 2 ^ (8 * n.toNat) ≤ 255 * 2 ^ 56 :=
          Nat.mul_le_mul (Nat.le_of_lt_succ hbyte) hplace
      _ < 2 ^ 64 := by norm_num
  rw [BitVec.toNat_shiftLeft, BitVec.toNat_setWidth, frameByte, BitVec.extractLsb'_toNat, Nat.shiftRight_eq_div_pow,
    Nat.shiftLeft_eq]
  change v.toNat / 2 ^ (8 * n.toNat) % 256 % 2 ^ 64 * 2 ^ (8 * n.toNat) % 2 ^ 64 = _
  rw [Nat.mod_eq_of_lt (hbyte.trans (by norm_num)), Nat.mod_eq_of_lt hfits]

/-- The low bytes of a value and the next byte in its place are the low bytes with one more. -/
theorem lowBytes_add_next {v low : Wide} (n : BitVec 3) (h : low.toNat = v.toNat % 2 ^ (8 * n.toNat)) :
    (low + (frameByte v n).setWidth 64 <<< (8 * n.toNat)).toNat = v.toNat % 2 ^ (8 * (n.toNat + 1)) := by
  have hnext : v.toNat % 2 ^ (8 * (n.toNat + 1))
      = v.toNat % 2 ^ (8 * n.toNat) + v.toNat / 2 ^ (8 * n.toNat) % 256 * 2 ^ (8 * n.toNat) := by
    rw [Nat.mul_succ, Nat.pow_add, Nat.mod_mul, Nat.mul_comm (2 ^ (8 * n.toNat))]
  have hfits : v.toNat % 2 ^ (8 * (n.toNat + 1)) < 2 ^ 64 := (Nat.mod_le _ _).trans_lt v.isLt
  rw [hnext] at hfits ⊢
  rw [BitVec.toNat_add, h, frameByte_in_place, Nat.mod_eq_of_lt hfits]

/-- A 64-bit value is the sum of its bytes in their places (R155). -/
theorem sum_frameBytes (v : Wide) :
    v = ((frameByte v 0#3).setWidth 64 <<< 0) + ((frameByte v 1#3).setWidth 64 <<< 8) + ((frameByte v 2#3).setWidth 64 <<< 16)
      + ((frameByte v 3#3).setWidth 64 <<< 24) + ((frameByte v 4#3).setWidth 64 <<< 32) + ((frameByte v 5#3).setWidth 64 <<< 40)
      + ((frameByte v 6#3).setWidth 64 <<< 48) + ((frameByte v 7#3).setWidth 64 <<< 56) := by
  have hfirst : ((frameByte v 0#3).setWidth 64 <<< 0 : Wide).toNat = v.toNat % 2 ^ 8 :=
    (frameByte_in_place v 0#3).trans (by simp)
  have hall := lowBytes_add_next 7#3 <| lowBytes_add_next 6#3 <| lowBytes_add_next 5#3 <| lowBytes_add_next 4#3 <|
    lowBytes_add_next 3#3 <| lowBytes_add_next 2#3 <| lowBytes_add_next 1#3 hfirst
  exact BitVec.eq_of_toNat_eq (hall.trans (Nat.mod_eq_of_lt v.isLt)).symm

end Sys2Proof.Machine
end

section
/-!
SUPPORT. The RR in a cycle without reset (R139, R147 to R150): an RR that is not idle ends the cycle as its own step leaves it, whatever the host
access, so a running timer ticks and an expired one takes the exit of its state; and the cycles in which the display pulses.
-/

namespace Sys2Proof.Machine

/-! ### The RR's step by its cases -/

theorem rrStep_running {s0 : State} (hh : rrHolds s0.rrState = true) (ht : s0.rrTimer ≠ 0#64) (s : State) :
    rrStep s0 s = timerTick s0 s := by
  rcases rrStep_cases s0 s with ⟨hn, _⟩ | ⟨_, _, h⟩ | ⟨_, hz, _⟩
  · cases hh.symm.trans hn
  · exact h
  · exact absurd hz ht

theorem rrStep_expired {s0 : State} (hh : rrHolds s0.rrState = true) (ht : s0.rrTimer = 0#64) (s : State) :
    rrStep s0 s = rrExit s0 s := by
  rcases rrStep_cases s0 s with ⟨hn, _⟩ | ⟨_, hnz, _⟩ | ⟨_, _, h⟩
  · cases hh.symm.trans hn
  · exact absurd ht hnz
  · exact h

/-- No step of the RR changes the last slot of the display or RR_LOOP (R30, R31). -/
theorem rrStep_last_loop (s0 s : State) : (rrStep s0 s).rrLast = s.rrLast ∧ (rrStep s0 s).rrLoop = s.rrLoop := by
  rcases rrStep_cases s0 s with ⟨_, h⟩ | ⟨_, _, h⟩ | ⟨_, _, h⟩ <;> rw [h]
  · exact ⟨rfl, rfl⟩
  · exact ⟨rfl, rfl⟩
  · unfold rrExit
    cases s0.rrState with
    | frame =>
      simp only [exitFrame]
      split <;> exact ⟨rfl, rfl⟩
    | pause =>
      simp only [exitPause, endOfValue]
      split <;> exact ⟨rfl, rfl⟩
    | gap | doneWait | idle | halted | undef6 | undef7 => exact ⟨rfl, rfl⟩

/-- The pulse after the RR's step follows from the start-of-cycle state and the pulse before it. -/
theorem rrStep_outWe_congr (s0 : State) {s s' : State} (h : s.outputs.outWe = s'.outputs.outWe) :
    (rrStep s0 s).outputs.outWe = (rrStep s0 s').outputs.outWe := by
  unfold rrStep
  split
  · split
    · exact h
    · unfold rrExit
      cases s0.rrState with
      | idle | halted | undef6 | undef7 | doneWait => exact h
      | frame =>
        simp only [exitFrame]
        split
        · rfl
        · exact h
      | pause =>
        simp only [exitPause, endOfValue]
        split <;> rfl
      | gap => rfl
  · exact h

/-- The RR's step pulses `out_we` only at an exit that shows a byte (R147 to R150, R162). -/
theorem rrStep_pulse {s0 s : State} (hp : (rrStep s0 s).outputs.outWe = true) (hs : s.outputs.outWe = false) :
    s0.rrTimer = 0#64 ∧ ((s0.rrState = .frame ∧ s0.rrFrame ≠ 0#3) ∨ s0.rrState = .pause ∨ s0.rrState = .gap) := by
  rcases rrStep_cases s0 s with ⟨_, h⟩ | ⟨_, _, h⟩ | ⟨_, ht, h⟩ <;> rw [h] at hp
  · cases hs.symm.trans hp
  · cases hs.symm.trans hp
  · refine ⟨ht, ?_⟩
    unfold rrExit at hp
    cases hstate : s0.rrState with
    | pause => exact .inr (.inl rfl)
    | gap => exact .inr (.inr rfl)
    | frame =>
      refine .inl ⟨rfl, fun hlast => ?_⟩
      simp only [hstate, exitFrame, hlast] at hp
      cases hs.symm.trans hp
    | idle | halted | undef6 | undef7 | doneWait =>
      simp only [hstate] at hp
      cases hs.symm.trans hp

/-! ### One step -/

theorem fsmDefined_of_step {s t : State} (h : step s = .next t) : fsmDefined s = true := by
  obtain ⟨hw, hx, _⟩ := step_cases h
  exact fsmDefined_iff.mpr ⟨hw, hx⟩

/-- Without reset a step is the end of a cycle over what the host access made of the state. -/
theorem step_cases_no_reset {s t : State} (hr : s.pins.rst = false) (h : step s = .next t) :
    ∃ u, t = finishCycle s u ∧ AccessMakes s u := by
  obtain ⟨_, _, ⟨hr', _⟩ | ⟨_, hu⟩⟩ := step_cases h
  · cases hr.symm.trans hr'
  · exact hu

theorem RrAgree.refl (s : State) : RrAgree s s := ⟨rfl, rfl, rfl, rfl, rfl, rfl, rfl, rfl, rfl⟩

/-- The state `t` has the RR's registers and the pulse on `out_we` of `w`. -/
structure RrEnds (w t : State) : Prop extends RrAgree t w where
  pulse : t.outputs.outWe = w.outputs.outWe

/-- A step of an RR that is not idle does to the RR what its own step does (R139, R175, R177). -/
theorem step_rrEnds {s t : State} (hr : s.pins.rst = false) (h : step s = .next t) (hb : s.rrState ≠ .idle) :
    RrEnds (rrStep s (quiet s)) t := by
  obtain ⟨u, rfl, hu⟩ := step_cases_no_reset hr h
  obtain ⟨hsame, _⟩ := access_rr_busy hb hu
  have hacc : RrAgree (wcrStep s u) (quiet s) := (wcrStep_rrAgree s u).symm.trans { (access_rrAgree hb hu).symm with }
  have hpulse : (wcrStep s u).outputs.outWe = (quiet s).outputs.outWe := (wcrStep_outputs_outWe s u).trans hsame.outWe
  exact ⟨(finishCycle_rrAgree s u).symm.trans (rrStep_congr (RrAgree.refl s) rfl rfl hacc),
    (congrArg Outputs.outWe (finishCycle_outputs s u)).trans (rrStep_outWe_congr s hpulse)⟩

/-- A running timer ticks (R139). -/
theorem step_ticks {s t : State} (hr : s.pins.rst = false) (h : step s = .next t) (hh : rrHolds s.rrState = true)
    (ht : s.rrTimer ≠ 0#64) : RrEnds (timerTick s (quiet s)) t :=
  rrStep_running hh ht (quiet s) ▸ step_rrEnds hr h (not_idle_of_rrHolds hh)

/-- An expired timer takes the exit of its state (R139). -/
theorem step_exits {s t : State} (hr : s.pins.rst = false) (h : step s = .next t) (hh : rrHolds s.rrState = true)
    (ht : s.rrTimer = 0#64) : RrEnds (rrExit s (quiet s)) t :=
  rrStep_expired hh ht (quiet s) ▸ step_rrEnds hr h (not_idle_of_rrHolds hh)

theorem step_exits_frame {s t : State} (hr : s.pins.rst = false) (h : step s = .next t) (hs : s.rrState = .frame)
    (ht : s.rrTimer = 0#64) : RrEnds (exitFrame s (quiet s)) t := by
  have hends := step_exits hr h (by rw [hs]; rfl) ht
  simpa only [rrExit, hs] using hends

theorem step_exits_pause {s t : State} (hr : s.pins.rst = false) (h : step s = .next t) (hs : s.rrState = .pause)
    (ht : s.rrTimer = 0#64) : RrEnds (exitPause s (quiet s)) t := by
  have hends := step_exits hr h (by rw [hs]; rfl) ht
  simpa only [rrExit, hs] using hends

theorem step_exits_gap {s t : State} (hr : s.pins.rst = false) (h : step s = .next t) (hs : s.rrState = .gap)
    (ht : s.rrTimer = 0#64) : RrEnds (exitGap s (quiet s)) t := by
  have hends := step_exits hr h (by rw [hs]; rfl) ht
  simpa only [rrExit, hs] using hends

theorem exitFrame_of_more {s0 : State} (h : s0.rrFrame ≠ 0#3) (s : State) :
    exitFrame s0 s = enterFrame s0 s0.rrVidx (s0.rrFrame - 1#3) s :=
  if_pos (by bv_omega)

theorem exitFrame_of_last {s0 : State} (h : s0.rrFrame = 0#3) (s : State) :
    exitFrame s0 s = { s with rrState := .pause, rrTimer := hold s0 Config.pauseMs } :=
  if_neg (by bv_omega)

theorem endOfValue_of_end {s0 : State} (h : s0.rrVidx = s0.rrLast ∧ s0.rrLoop = false) (s : State) :
    endOfValue s0 s = { s with rrState := .idle } :=
  if_pos h

theorem endOfValue_of_more {s0 : State} (h : ¬ (s0.rrVidx = s0.rrLast ∧ s0.rrLoop = false)) (s : State) :
    endOfValue s0 s = { s with rrState := .gap, rrTimer := hold s0 Config.gapMs } :=
  if_neg h

/-- What the end of a value leaves (R149). -/
theorem endOfValue_frame (s0 s : State) :
    (endOfValue s0 s).out = s.out ∧ (endOfValue s0 s).outputs = s.outputs ∧ (endOfValue s0 s).rrFrame = s.rrFrame
      ∧ (endOfValue s0 s).rrVidx = s.rrVidx ∧ (endOfValue s0 s).rrLast = s.rrLast ∧ (endOfValue s0 s).rrLoop = s.rrLoop
      ∧ (endOfValue s0 s).rrVal0 = s.rrVal0 ∧ (endOfValue s0 s).rrVal1 = s.rrVal1 := by
  unfold endOfValue
  split <;> exact ⟨rfl, rfl, rfl, rfl, rfl, rfl, rfl, rfl⟩

/-- Without reset the device write a step adds is that of its pulse (R37). -/
theorem step_devWrites_no_reset {s t : State} (hr : s.pins.rst = false) (h : step s = .next t) :
    devWrites t.trace = devWrites s.trace ++ if t.outputs.outWe then [(s.cycle, t.out)] else [] := by
  rw [step_devWrites h, hr]
  exact List.append_nil _

/-- A host access pulses `out_we` only as an RR command that an idle RR accepts (R162). -/
theorem access_pulse {s u : State} (h : AccessMakes s u) (hp : u.outputs.outWe = true) :
    s.rrState = .idle ∧ ∃ c, issuedCommand s = some c ∧ isRrCommand c = true := by
  rcases h with ⟨_, rfl⟩ | ⟨i, hf, hx⟩
  · cases hp
  · rcases exec_rr hx with ⟨hsame, _⟩ | ⟨hidle, c, hc, hpres, _⟩
    · cases hsame.outWe.symm.trans hp
    · exact ⟨hidle, c, issuedCommand_of_presents hf hpres, hc⟩

/-- Where a pulse on `out_we` comes from, outside reset (R162). -/
theorem step_pulse {s t : State} (hr : s.pins.rst = false) (h : step s = .next t) (hp : t.outputs.outWe = true) :
    (s.rrState = .idle ∧ ∃ c, issuedCommand s = some c ∧ isRrCommand c = true)
    ∨ (s.rrTimer = 0#64 ∧ ((s.rrState = .frame ∧ s.rrFrame ≠ 0#3) ∨ s.rrState = .pause ∨ s.rrState = .gap)) := by
  obtain ⟨u, rfl, hu⟩ := step_cases_no_reset hr h
  rw [finishCycle_outputs] at hp
  cases hw : u.outputs.outWe with
  | true => exact .inl (access_pulse hu hw)
  | false => exact .inr (rrStep_pulse hp ((wcrStep_outputs_outWe s u).trans hw))

end Sys2Proof.Machine
end

section
/-!
SUPPORT. Dropped accesses (R161, R174, R175): a command or a value write that finds its unit not idle only sets ERR_BUSY, and the units' own
steps carry the flag through, so the cycle is the one without the access.
-/

namespace Sys2Proof.Machine

/-- A command that finds its unit not idle only sets ERR_BUSY (R174). -/
theorem issue_of_commandDropped {c : Cmd} {s : State} (h : commandDropped c s) :
    issue c s = .next (setErrBusy (respondWrite s)) := by
  rcases h with ⟨hbusy, hc⟩ | ⟨hbusy, k, rfl⟩
  · cases c with
    | rrIdle | rrShow | rrSeq | rrDone => exact if_neg hbusy
    | nop | wcrSample | clrStatus | illegal => cases hc
  · exact if_neg hbusy

/-- What a dropped access makes of the state, and that there is one (R174, R175). -/
theorem access_of_busyReject {s u : State} (hd : busyReject s) (h : AccessMakes s u) :
    u = setErrBusy (quiet s) ∧ ∃ a, s.pins.bus = some a := by
  rcases h with ⟨hf, _⟩ | ⟨i, hf, hx⟩
  · simp [busyReject, issuedCommand, hf] at hd
  · refine ⟨?_, ?_⟩
    · rcases exec_fetched_flags hf hx with ⟨c, hc, hi, hu⟩ | ⟨hc, _⟩
      · cases hu.symm.trans (issue_of_commandDropped ((busyReject_of_command hf hc hi).mp hd))
        rfl
      · obtain ⟨hbusy, hi⟩ := (busyReject_of_no_command hf hc).mp hd
        cases hx.symm.trans (exec_slotWrite_not_idle hi hbusy)
        rfl
    · obtain ⟨a, ha, _⟩ := Option.map_eq_some_iff.mp hf
      exact ⟨a, ha⟩

/-! ### The flag through the end of a cycle -/

theorem wcrStep_setErrBusy (s0 s : State) : wcrStep s0 (setErrBusy s) = setErrBusy (wcrStep s0 s) := by
  unfold wcrStep
  cases s0.wcrState with
  | idle | rdH1 | rdL | rdL2 | undef5 | undef6 | undef7 => rfl
  | rdH2 =>
    simp only [stepRdH2]
    split <;> rfl

theorem rrExit_setErrBusy (s0 s : State) : rrExit s0 (setErrBusy s) = setErrBusy (rrExit s0 s) := by
  unfold rrExit
  cases s0.rrState with
  | frame =>
    simp only [exitFrame]
    split <;> rfl
  | pause =>
    simp only [exitPause, endOfValue]
    split <;> rfl
  | gap | doneWait | idle | halted | undef6 | undef7 => rfl

theorem rrStep_setErrBusy (s0 s : State) : rrStep s0 (setErrBusy s) = setErrBusy (rrStep s0 s) := by
  unfold rrStep
  split
  · split
    · rfl
    · exact rrExit_setErrBusy s0 s
  · rfl

/-- The end of a cycle does not read the sticky flags. -/
theorem finishCycle_setErrBusy (s0 s : State) : finishCycle s0 (setErrBusy s) = setErrBusy (finishCycle s0 s) := by
  unfold finishCycle
  rw [wcrStep_setErrBusy, rrStep_setErrBusy]
  rfl

/-- Over quiet outputs the end of a cycle with an access differs from the one without it in the trace alone. -/
theorem finishCycle_quiet_withoutAccess (s : State) :
    finishCycle s (quiet s) =
      { finishCycle (withoutAccess s) (quiet (withoutAccess s)) with trace := (finishCycle s (quiet s)).trace } := by
  have hunanswered : ∀ o : Outputs, o.busRdata = none → o.busErr = false → { o with busRdata := none, busErr := false } = o := by
    rintro ⟨_, _, _, _⟩ rfl rfl
    rfl
  have houtputs := hunanswered (finishCycle (withoutAccess s) (quiet (withoutAccess s))).outputs (by simp [Outputs.quiet])
    (by simp [Outputs.quiet])
  have hbus := finishCycle_withBus s.pins.bus none false s (quiet (withoutAccess s))
  rw [houtputs] at hbus
  exact hbus

/-- The cycle of a dropped access and the one without it end in states that differ in the flag and the trace (R161, R174, R175). -/
theorem step_of_busyReject {s t : State} (hr : s.pins.rst = false) (h : step s = .next t) (hd : busyReject s) :
    ∃ u a, step (withoutAccess s) = .next u ∧ s.pins.bus = some a ∧ t = { u with errBusy := true, trace := t.trace } := by
  have hdef := fsmDefined_of_step h
  obtain ⟨u, rfl, hu⟩ := step_cases_no_reset hr h
  obtain ⟨rfl, a, ha⟩ := access_of_busyReject hd hu
  refine ⟨_, a, step_withoutAccess hr hdef, ha, ?_⟩
  rw [finishCycle_setErrBusy]
  exact congrArg setErrBusy (finishCycle_quiet_withoutAccess s)

end Sys2Proof.Machine
end

section
/-!
SUPPORT. Runs of the RR without reset (R138, R139, R151, R152, R154): a hold lasts until its timer runs out and is followed by the exit of its
state, so a display is a chain of holds, each ended by one device write or none.
-/

namespace Sys2Proof.Machine

/-! ### Runs -/

/-- A run of one more cycle begins with a step that answers a next state. -/
theorem reaches_succ_iff {s t : State} {n : Nat} : reaches s (n + 1) t ↔ ∃ u, step s = .next u ∧ reaches u n t := by
  refine ⟨fun h => ?_, fun ⟨_, hu, h⟩ => (reaches_succ hu).mpr h⟩
  cases hstep : step s with
  | next u => exact ⟨u, rfl, (reaches_succ hstep).mp h⟩
  | fault r => cases r
  | refused r =>
    have hcore : Sys2Proof.core.step s = .refused r := hstep
    simp [reaches, Host.Core.run, hcore] at h

theorem reaches_one {s t : State} (h : step s = .next t) : reaches s 1 t :=
  (reaches_succ h).mpr (reaches_zero.mpr rfl)

theorem reaches_trans {m n : Nat} {s u t : State} (hu : reaches s m u) (ht : reaches u n t) : reaches s (m + n) t := by
  induction m generalizing s with
  | zero =>
    obtain rfl := reaches_zero.mp hu
    rwa [Nat.zero_add]
  | succ m ih =>
    obtain ⟨w, hw, hrun⟩ := reaches_succ_iff.mp hu
    rw [Nat.succ_add]
    exact (reaches_succ hw).mpr (ih hrun)

/-- A run moves the cycle number and the inputs on, and keeps the build's parameters and the defined encodings. -/
theorem reaches_environment {n : Nat} {s t : State} (h : reaches s n t) :
    t.cycle = s.cycle + n ∧ t.params = s.params ∧ (∀ k, pinsAhead t k = pinsAhead s (n + k))
      ∧ (fsmDefined s = true → fsmDefined t = true) := by
  induction n generalizing s with
  | zero =>
    obtain rfl := reaches_zero.mp h
    exact ⟨rfl, rfl, fun k => by rw [Nat.zero_add], id⟩
  | succ n ih =>
    obtain ⟨u, hu, hrun⟩ := reaches_succ_iff.mp h
    obtain ⟨hcycle, hparams, hpins, hdef⟩ := ih hrun
    obtain ⟨hcycle1, _, hparams1⟩ := step_environment hu
    refine ⟨by omega, hparams.trans hparams1, fun k => ?_, fun _ => hdef (step_defined hu)⟩
    rw [hpins, step_pinsAhead hu, Nat.add_right_comm]

theorem noResetFor_after {m n : Nat} {s t : State} (h : reaches s m t) (hn : noResetFor s (m + n)) : noResetFor t n := by
  obtain ⟨_, _, hpins, _⟩ := reaches_environment h
  intro k hk
  rw [hpins]
  exact hn (m + k) (by omega)

theorem clockFor_after {m n : Nat} {hz : Word} {s t : State} (h : reaches s m t) (hc : clockFor s hz (m + n)) :
    clockFor t hz n := by
  obtain ⟨_, _, hpins, _⟩ := reaches_environment h
  intro k hk
  rw [hpins]
  exact hc (m + k) (by omega)

theorem noResetFor_mono {m n : Nat} {s : State} (hn : noResetFor s n) (h : m ≤ n) : noResetFor s m :=
  fun k hk => hn k (by omega)

theorem clockFor_mono {m n : Nat} {hz : Word} {s : State} (hc : clockFor s hz n) (h : m ≤ n) : clockFor s hz m :=
  fun k hk => hc k (by omega)

/-! ### A hold -/

/-- After `k` cycles of a hold: the timer has lost `k`, the other RR registers and OUT are those of the start, and no device write was made. -/
structure HeldFor (k : Nat) (s t : State) : Prop where
  run : reaches s k t
  display : RrAgree t { s with rrTimer := t.rrTimer }
  timer : t.rrTimer.toNat = s.rrTimer.toNat - k
  writes : devWrites t.trace = devWrites s.trace

/-- A hold lasts as long as its timer runs, whatever the host does (R138, R139). -/
theorem exists_heldFor (k : Nat) {s : State} (hd : fsmDefined s = true) (hh : rrHolds s.rrState = true)
    (hk : k ≤ s.rrTimer.toNat) (hn : noResetFor s k) : ∃ t, HeldFor k s t := by
  induction k generalizing s with
  | zero => exact ⟨s, reaches_zero.mpr rfl, RrAgree.refl s, rfl, rfl⟩
  | succ k ih =>
    obtain ⟨u, hu⟩ := step_answers hd
    have hr := noResetFor_now hn
    have hrunning : s.rrTimer ≠ 0#64 := by
      rintro hz
      simp [hz] at hk
    have e := step_ticks hr hu hh hrunning
    have hpulse : u.outputs.outWe = false := e.pulse
    have htimer : u.rrTimer.toNat = s.rrTimer.toNat - 1 := by
      rw [e.rrTimer, timerTick_rrTimer]
      bv_omega
    obtain ⟨t, held⟩ := ih (step_defined hu) (e.rrState ▸ hh) (by omega) (noResetFor_succ hn hu)
    refine ⟨t, (reaches_succ hu).mpr held.run, held.display.trans { e.toRrAgree with rrTimer := rfl }, ?_, ?_⟩
    · rw [held.timer, htimer]
      omega
    · rw [held.writes, step_devWrites_no_reset hr hu, hpulse]
      exact List.append_nil _

/-- A whole hold of `k` cycles from `s`: `u` is its last cycle, whose step `t` takes the exit of the state (R138, R139). -/
structure HoldEnds (k : Nat) (s u t : State) : Prop where
  run : reaches s k t
  display : RrAgree u { s with rrTimer := u.rrTimer }
  params : u.params = s.params
  cycle : u.cycle + 1 = s.cycle + k
  clkHz : ∀ hz, clockFor s hz k → u.pins.clkHz = hz
  last : u.pins.rst = false
  exits : step u = .next t
  expired : u.rrTimer = 0#64
  writes : devWrites t.trace = devWrites s.trace ++ if t.outputs.outWe then [(u.cycle, t.out)] else []

theorem exists_holdEnds {s : State} {k : Nat} (hd : fsmDefined s = true) (hh : rrHolds s.rrState = true)
    (hk : s.rrTimer.toNat + 1 = k) (hn : noResetFor s k) : ∃ u t, HoldEnds k s u t := by
  obtain rfl := hk
  obtain ⟨u, held⟩ := exists_heldFor s.rrTimer.toNat hd hh le_rfl (noResetFor_mono hn (Nat.le_succ _))
  obtain ⟨hcycle, hparams, _, hdef⟩ := reaches_environment held.run
  obtain ⟨t, ht⟩ := step_answers (hdef hd)
  have hlast : u.pins.rst = false := noResetFor_now (noResetFor_after held.run hn)
  refine ⟨u, t, ?ends⟩
  constructor
  case run => exact reaches_trans held.run (reaches_one ht)
  case display => exact held.display
  case params => exact hparams
  case cycle => rw [hcycle, Nat.add_assoc]
  case clkHz => exact fun hz hc => clockFor_after held.run hc 0 Nat.one_pos
  case last => exact hlast
  case exits => exact ht
  case expired => exact BitVec.eq_of_toNat_eq (held.timer.trans (Nat.sub_self _))
  case writes => rw [step_devWrites_no_reset hlast ht, held.writes]

/-- A looping display stays one in every cycle without reset (R154). -/
theorem step_keeps_loop {s t : State} (hi : RrInv s) (hl : s.rrLoop = true) (hr : s.pins.rst = false) (h : step s = .next t) :
    t.rrLoop = true ∧ t.rrLast = s.rrLast := by
  have hb : s.rrState ≠ .idle := by
    rcases hi.loopPlace hl with hs | hs | hs <;> rw [hs] <;> nofun
  have e := step_rrEnds hr h hb
  obtain ⟨hlast, hloop⟩ := rrStep_last_loop s (quiet s)
  exact ⟨(e.rrLoop.trans hloop).trans hl, e.rrLast.trans hlast⟩

/-! ### The display of one value -/

/-- An idle RR that accepts a command ends the cycle as the command leaves it (R140 to R144, R163). -/
theorem step_accepts_rrCommand {s t : State} {c : Cmd} (hr : s.pins.rst = false) (h : step s = .next t)
    (hidle : s.rrState = .idle) (hc : issuedCommand s = some c) (hrr : isRrCommand c = true) : RrEnds (rrAccepted c s) t := by
  obtain ⟨u, rfl, hu⟩ := step_cases_no_reset hr h
  obtain rfl := access_accepts_rrCommand hidle hc hrr hu
  have hnone : rrStep s (wcrStep s (rrAccepted c s)) = wcrStep s (rrAccepted c s) := rrStep_no_hold (by rw [hidle]; rfl) _
  have hagree := (finishCycle_rrAgree s (rrAccepted c s)).symm
  rw [hnone] at hagree
  refine ⟨hagree.trans (wcrStep_rrAgree s _).symm, ?_⟩
  rw [finishCycle_outputs, hnone, wcrStep_outputs_outWe]

/-- The start of a hold of `k` cycles in state `x` of the RR and frame `n`, after cycle `c`, in the display of the last value `v` without
loop. -/
structure HoldStarts (p : Params) (v : Wide) (x : RrState) (n : BitVec 3) (k c : Nat) (s : State) : Prop where
  fsm : fsmDefined s = true
  params : s.params = p
  cycle : s.cycle = c + 1
  state : s.rrState = x
  frame : s.rrFrame = n
  value : slotValue s s.rrVidx = v
  lastSlot : s.rrVidx = s.rrLast
  noLoop : s.rrLoop = false
  timer : s.rrTimer.toNat + 1 = k

/-- The device writes of the frames below frame `n`, each a dwell after the one before; frame `n` was written in cycle `c` (R151). -/
def frameWrites (p : Params) (v : Wide) (dwell : Nat) : Nat → Nat → List (Nat × Byte)
  | 0, _ => []
  | n + 1, c => (c + dwell, phys p (frameByte v (BitVec.ofNat 3 n))) :: frameWrites p v dwell n (c + dwell)

section Show

variable {p : Params} {hz : Word} {v : Wide} {x y : RrState} {n m : BitVec 3} {k j c : Nat} {s t : State}

/-- A hold whose exit goes on with the same value is followed by the hold that the exit starts. -/
theorem HoldStarts.next (h : HoldStarts p v x n k c s) (hrun : reaches s k t) (hval0 : t.rrVal0 = s.rrVal0)
    (hval1 : t.rrVal1 = s.rrVal1) (hvidx : t.rrVidx = s.rrVidx) (hlast : t.rrLast = s.rrLast) (hloop : t.rrLoop = s.rrLoop)
    (hstate : t.rrState = y) (hframe : t.rrFrame = m) (htimer : t.rrTimer.toNat + 1 = j) :
    HoldStarts p v y m j (c + k) t where
  fsm := by
    obtain ⟨_, _, _, hdef⟩ := reaches_environment hrun
    exact hdef h.fsm
  params := by
    obtain ⟨_, hparams, _⟩ := reaches_environment hrun
    exact hparams.trans h.params
  cycle := by
    obtain ⟨hcycle, _⟩ := reaches_environment hrun
    rw [hcycle, h.cycle, Nat.add_right_comm]
  state := hstate
  frame := hframe
  value := by
    rw [← h.value]
    simp only [slotValue, hval0, hval1, hvidx]
  lastSlot := by rw [hvidx, hlast, h.lastSlot]
  noLoop := hloop.trans h.noLoop
  timer := htimer

theorem HoldStarts.exists_ends (h : HoldStarts p v x n k c s) (hx : rrHolds x = true) (hr : noResetFor s k) :
    ∃ u t, HoldEnds k s u t ∧ u.rrState = x ∧ u.rrFrame = n ∧ u.params = p ∧ u.cycle = c + k := by
  obtain ⟨u, t, hends⟩ := exists_holdEnds h.fsm (h.state ▸ hx) h.timer hr
  have hcycle := hends.cycle
  rw [h.cycle] at hcycle
  exact ⟨u, t, hends, hends.display.rrState.trans h.state, hends.display.rrFrame.trans h.frame,
    hends.params.trans h.params, by omega⟩

/-- A frame before the last is followed, after its dwell, by the next less significant one (R147). -/
theorem HoldStarts.nextFrame (h : HoldStarts p v .frame n k c s) (hn : n ≠ 0#3) (hr : noResetFor s k) (hc : clockFor s hz k) :
    ∃ t, reaches s k t ∧ HoldStarts p v .frame (n - 1#3) (holdCycles p hz Config.dwellMs).toNat (c + k) t
      ∧ devWrites t.trace = devWrites s.trace ++ [(c + k, phys p (frameByte v (n - 1#3)))] := by
  obtain ⟨u, t, hends, hstate, hframe, hparams, hcycle⟩ := h.exists_ends rfl hr
  have d := hends.display
  have e := step_exits_frame hends.last hends.exits hstate hends.expired
  rw [exitFrame_of_more (hframe.symm ▸ hn), hframe] at e
  have htimer : t.rrTimer.toNat + 1 = (holdCycles p hz Config.dwellMs).toNat := by
    rw [← hparams, ← hends.clkHz hz hc, ← hold_toNat_succ, e.rrTimer]
    rfl
  have hnext := h.next hends.run (e.rrVal0.trans d.rrVal0) (e.rrVal1.trans d.rrVal1) (e.rrVidx.trans d.rrVidx)
    (e.rrLast.trans d.rrLast) (e.rrLoop.trans d.rrLoop) e.rrState e.rrFrame htimer
  have hout : t.out = phys p (frameByte v (n - 1#3)) := by
    rw [e.out, enterFrame_out, hparams, ← h.value, slotValue_congr d, d.rrVidx]
    rfl
  have hpulse : t.outputs.outWe = true := e.pulse
  refine ⟨t, hends.run, hnext, ?_⟩
  rw [hends.writes, hpulse, hout, hcycle]
  rfl

/-- Frame 0 is followed, after its dwell, by the pause, without a device write (R147). -/
theorem HoldStarts.beginPause (h : HoldStarts p v .frame 0#3 k c s) (hr : noResetFor s k) (hc : clockFor s hz k) :
    ∃ t, reaches s k t ∧ HoldStarts p v .pause 0#3 (holdCycles p hz Config.pauseMs).toNat (c + k) t
      ∧ devWrites t.trace = devWrites s.trace := by
  obtain ⟨u, t, hends, hstate, hframe, hparams, _⟩ := h.exists_ends rfl hr
  have d := hends.display
  have e := step_exits_frame hends.last hends.exits hstate hends.expired
  rw [exitFrame_of_last hframe] at e
  have htimer : t.rrTimer.toNat + 1 = (holdCycles p hz Config.pauseMs).toNat := by
    rw [← hparams, ← hends.clkHz hz hc, ← hold_toNat_succ, e.rrTimer]
  have hnext := h.next hends.run (e.rrVal0.trans d.rrVal0) (e.rrVal1.trans d.rrVal1) (e.rrVidx.trans d.rrVidx)
    (e.rrLast.trans d.rrLast) (e.rrLoop.trans d.rrLoop) e.rrState (e.rrFrame.trans hframe) htimer
  have hpulse : t.outputs.outWe = false := e.pulse
  refine ⟨t, hends.run, hnext, ?_⟩
  rw [hends.writes, hpulse]
  exact List.append_nil _

/-- After the pause of the last value the idle pattern is written and the RR is idle (R148, R149). -/
theorem HoldStarts.endPause (h : HoldStarts p v .pause n k c s) (hr : noResetFor s k) :
    ∃ t, reaches s k t ∧ t.rrState = .idle ∧ devWrites t.trace = devWrites s.trace ++ [(c + k, idlePattern p)] := by
  obtain ⟨u, t, hends, hstate, _, hparams, hcycle⟩ := h.exists_ends rfl hr
  have d := hends.display
  have e := step_exits_pause hends.last hends.exits hstate hends.expired
  have hend : u.rrVidx = u.rrLast ∧ u.rrLoop = false :=
    ⟨(d.rrVidx.trans h.lastSlot).trans d.rrLast.symm, d.rrLoop.trans h.noLoop⟩
  rw [exitPause, endOfValue_of_end hend] at e
  have hout : t.out = idlePattern p := by
    rw [← hparams]
    exact e.out
  have hpulse : t.outputs.outWe = true := e.pulse
  refine ⟨t, hends.run, e.rrState, ?_⟩
  rw [hends.writes, hpulse, hout, hcycle]
  rfl

/-- The display of a value runs through its frames down to frame 0 (R151). -/
theorem HoldStarts.lastFrame (hk : k = (holdCycles p hz Config.dwellMs).toNat) (i : Nat) (hi : i < 8)
    (h : HoldStarts p v .frame (BitVec.ofNat 3 i) k c s) (hr : noResetFor s (i * k)) (hc : clockFor s hz (i * k)) :
    ∃ t, reaches s (i * k) t ∧ HoldStarts p v .frame 0#3 k (c + i * k) t
      ∧ devWrites t.trace = devWrites s.trace ++ frameWrites p v k i c := by
  induction i generalizing s c with
  | zero =>
    rw [Nat.zero_mul]
    exact ⟨s, reaches_zero.mpr rfl, h, (List.append_nil _).symm⟩
  | succ i ih =>
    have hcycles : (i + 1) * k = k + i * k := by rw [Nat.succ_mul, Nat.add_comm]
    rw [hcycles] at hr hc ⊢
    have hmore : BitVec.ofNat 3 (i + 1) ≠ 0#3 := by bv_omega
    have hbelow : BitVec.ofNat 3 (i + 1) - 1#3 = BitVec.ofNat 3 i := by bv_omega
    obtain ⟨u, hu, hnext, hwrite⟩ := h.nextFrame hmore (noResetFor_mono hr (Nat.le_add_right _ _))
      (clockFor_mono hc (Nat.le_add_right _ _))
    rw [hbelow, ← hk] at hnext
    rw [hbelow] at hwrite
    obtain ⟨t, ht, hlast, hwrites⟩ := ih (by omega) hnext (noResetFor_after hu hr) (clockFor_after hu hc)
    refine ⟨t, reaches_trans hu ht, ?_, ?_⟩
    · rwa [← Nat.add_assoc]
    · rw [hwrites, hwrite, List.append_assoc]
      rfl

/-- An accepted `rr.show` writes frame 7 in its own cycle and starts the dwell of the frame (R142). -/
theorem showStarts {slot : BitVec 1} (hd : fsmDefined s = true) (hidle : s.rrState = .idle)
    (hcmd : issuedCommand s = some (.rrShow slot)) (hr : s.pins.rst = false) (hclk : s.pins.clkHz = hz) :
    ∃ t, step s = .next t
      ∧ HoldStarts s.params (slotValue s slot) .frame 7#3 (holdCycles s.params hz Config.dwellMs).toNat s.cycle t
      ∧ devWrites t.trace = devWrites s.trace ++ [(s.cycle, phys s.params (frameByte (slotValue s slot) 7#3))] := by
  obtain ⟨t, ht⟩ := step_answers hd
  obtain ⟨hcycle, _, hparams⟩ := step_environment ht
  have e := step_accepts_rrCommand hr ht hidle hcmd rfl
  have hout : t.out = phys s.params (frameByte (slotValue s slot) 7#3) := e.out
  have hpulse : t.outputs.outWe = true := e.pulse
  refine ⟨t, ht, ?starts, ?writes⟩
  case starts =>
    constructor
    case fsm => exact step_defined ht
    case params => exact hparams
    case cycle => exact hcycle
    case state => exact e.rrState
    case frame => exact e.rrFrame
    case value =>
      simp only [slotValue, e.rrVal0, e.rrVal1, e.rrVidx]
      rfl
    case lastSlot => exact e.rrVidx.trans e.rrLast.symm
    case noLoop => exact e.rrLoop
    case timer =>
      rw [← hclk, ← hold_toNat_succ, e.rrTimer]
      rfl
  case writes =>
    rw [step_devWrites_no_reset hr ht, hpulse, hout]
    rfl

/-- The seven frames below frame 7 at their cycles (R151). -/
theorem frameWrites_seven (p : Params) (v : Wide) (dwell c : Nat) :
    frameWrites p v dwell 7 c =
      [(c + dwell, phys p ((v >>> 48).setWidth 8)), (c + 2 * dwell, phys p ((v >>> 40).setWidth 8)),
        (c + 3 * dwell, phys p ((v >>> 32).setWidth 8)), (c + 4 * dwell, phys p ((v >>> 24).setWidth 8)),
        (c + 5 * dwell, phys p ((v >>> 16).setWidth 8)), (c + 6 * dwell, phys p ((v >>> 8).setWidth 8)),
        (c + 7 * dwell, phys p (v.setWidth 8))] := by
  simp only [frameWrites, List.cons.injEq, Prod.mk.injEq, and_true, true_and]
  refine ⟨rfl, ⟨?_, rfl⟩, ⟨?_, rfl⟩, ⟨?_, rfl⟩, ⟨?_, rfl⟩, ⟨?_, rfl⟩, ?_, rfl⟩ <;> omega

end Show

end Sys2Proof.Machine
end

section
/-!
CERTIFICATES. The statements of 42_rr_serial.md: the polarity (R157), dropped accesses (R161), the holds and their exits (R137 to R150), a
display as a whole (R151 to R155), the sources of device writes (R162), and the RR's commands (R140 to R144).
-/

namespace Sys2Proof.Machine

/-- Settles O59: the pair of states stays a pair of mirror images, complementary where the polarities are opposite and OUT is. -/
theorem polarityDoesNotChangeThePath : Obligations.PolarityDoesNotChangeThePath := by
  intro s s' t hp h
  obtain ⟨t', h', hm⟩ := step_mirrors (flipped := s'.params.activeLow = (!s.params.activeLow) ∧ s'.out = ~~~s.out) hp
    And.left And.right h
  exact ⟨t', h', hm.path, hm.pulse, hm.port, fun hpol hout => hm.out ⟨hpol, hout⟩⟩

/-- Settles O28: the two cycles end in states that differ in ERR_BUSY and the trace, so they add the same device write and counter read to the
trace, and only the one with the access records it. -/
theorem droppedAccessOnlySetsErrBusy : Obligations.DroppedAccessOnlySetsErrBusy := by
  intro s t hr h hd
  obtain ⟨u, a, hu, ha, heq⟩ := step_of_busyReject hr h hd
  have hout : t.out = u.out := congrArg (·.out) heq
  have houtputs : t.outputs = u.outputs := congrArg (·.outputs) heq
  refine ⟨u, a, hu, ha, heq, ?_, ?_, ?_⟩
  · rw [step_devWrites h, step_devWrites hu, hout, houtputs]
    rfl
  · rw [step_counterReads h, step_counterReads hu, houtputs]
    rfl
  · simp [step_busAccesses h, step_busAccesses hu, ha, withoutAccess]

/-- Settles O46: neither product overflows 64 bits, and a hold is the delay or 1 cycle, less the cycle of the exit. -/
theorem delaysAreExact : Obligations.DelaysAreExact := by
  intro s ms
  rw [hold_toNat]
  refine ⟨fun hmode => ?_, fun hmode => ?_⟩
  · rw [delayTicks_calibrated hmode]
    exact ⟨rfl, rfl⟩
  · rw [delayTicks_uncalibrated hmode]
    exact ⟨rfl, rfl⟩

/-- Settles O47: the step of an RR with a running timer is its tick. -/
theorem runningTimerOnlyCountsDown : Obligations.RunningTimerOnlyCountsDown := by
  intro s hr hd hs ht
  obtain ⟨t, h⟩ := step_answers hd
  have e := step_ticks hr h (rrBusy_iff.mpr hs) ht
  have hpulse : t.outputs.outWe = false := e.pulse
  have htimer : t.rrTimer.toNat = s.rrTimer.toNat - 1 := by
    rw [e.rrTimer, timerTick_rrTimer]
    bv_omega
  refine ⟨t, h, htimer, e.rrState, e.rrFrame, e.rrVidx, e.rrLast, e.rrLoop, e.rrVal0, e.rrVal1, e.out, hpulse, ?_⟩
  simp [step_devWrites_no_reset hr h, hpulse]

/-- Settles O48: the two branches of `exitFrame`. -/
theorem frameExitShowsTheNextFrame : Obligations.FrameExitShowsTheNextFrame := by
  intro s hr hd hs ht
  obtain ⟨t, h⟩ := step_answers hd
  have e := step_exits_frame hr h hs ht
  refine ⟨t, h, ?_⟩
  by_cases hlast : s.rrFrame = 0#3
  · rw [exitFrame_of_last hlast] at e
    exact ⟨e.rrVidx, e.rrLast, e.rrLoop, e.rrVal0, e.rrVal1, fun hmore => absurd hlast hmore,
      fun _ => ⟨e.rrState, e.rrFrame.trans hlast, e.rrTimer, e.pulse, e.out⟩⟩
  · rw [exitFrame_of_more hlast] at e
    have hframe : (s.rrFrame - 1#3).toNat = s.rrFrame.toNat - 1 := by bv_omega
    refine ⟨e.rrVidx, e.rrLast, e.rrLoop, e.rrVal0, e.rrVal1,
      fun _ => ⟨e.rrState, (congrArg BitVec.toNat e.rrFrame).trans hframe, e.rrTimer, e.pulse, ?_⟩,
      fun hzero => absurd hzero hlast⟩
    rw [e.out, enterFrame_out, frameByte_eq_shift, hframe]
    rfl

/-- Settles O49: the pause ends with the idle write and `end_of_value()`. -/
theorem pauseExitWritesIdleAndEndsTheValue : Obligations.PauseExitWritesIdleAndEndsTheValue := by
  intro s hr hd hs ht
  obtain ⟨t, h⟩ := step_answers hd
  have e := step_exits_pause hr h hs ht
  unfold exitPause at e
  obtain ⟨hout, houtputs, hframe, hvidx, hlast, hloop, hval0, hval1⟩ :=
    endOfValue_frame s (devWrite (idlePattern s.params) (quiet s))
  refine ⟨t, h, e.out.trans hout, e.pulse.trans (congrArg Outputs.outWe houtputs), e.rrVidx.trans hvidx, e.rrLast.trans hlast,
    e.rrLoop.trans hloop, e.rrFrame.trans hframe, e.rrVal0.trans hval0, e.rrVal1.trans hval1, fun hend => ?_, fun hmore => ?_⟩
  · rw [endOfValue_of_end hend] at e
    exact ⟨e.rrState, e.rrTimer.trans ht⟩
  · rw [endOfValue_of_more hmore] at e
    exact ⟨e.rrState, e.rrTimer⟩

/-- Settles O50: the gap ends with the entry of frame 7 of the next slot. -/
theorem gapExitShowsTheNextValue : Obligations.GapExitShowsTheNextValue := by
  intro s hr hd hs ht
  obtain ⟨t, h⟩ := step_answers hd
  have e := step_exits_gap hr h hs ht
  have hvidx : t.rrVidx = nextSlot s := e.rrVidx
  refine ⟨t, h, e.rrState, e.rrFrame, e.rrTimer, e.pulse, e.rrLast, e.rrLoop, e.rrVal0, e.rrVal1, hvidx, ?_⟩
  rw [hvidx]
  exact e.out

/-- Settles O52, by induction on the cycles of the hold in `exists_heldFor`. -/
theorem holdLastsUntilTheTimerRunsOut : Obligations.HoldLastsUntilTheTimerRunsOut := by
  intro k s hd hs hk hn
  obtain ⟨t, held⟩ := exists_heldFor k hd (rrBusy_iff.mpr hs) hk hn
  exact ⟨t, held.run, held.timer, held.display.rrState, held.display.rrFrame, held.display.out, held.writes⟩

/-- Settles O54, by induction on the number of cycles: every cycle keeps the invariant, RR_LOOP and RR_LAST, and RR_LOOP is 1 only in a
display. -/
theorem loopingDisplayNeverEnds : Obligations.LoopingDisplayNeverEnds := by
  intro n
  induction n with
  | zero =>
    intro s t hi hl _ hrun
    obtain rfl := reaches_zero.mp hrun
    exact ⟨hl, rfl, hi.loopPlace hl⟩
  | succ n ih =>
    intro s t hi hl hn hrun
    obtain ⟨u, hu, hrest⟩ := reaches_succ_iff.mp hrun
    obtain ⟨hloop, hlast⟩ := step_keeps_loop hi hl (noResetFor_now hn) hu
    obtain ⟨hloop', hlast', hstate⟩ := ih u t (stepKeepsTheRrInvariant s u hi hu) hloop (noResetFor_succ hn hu) hrest
    exact ⟨hloop', hlast'.trans hlast, hstate⟩

/-- Settles O55: the RR's own step never writes a slot, and no access does while the RR is not idle. -/
theorem valueSlotsAreLockedWhileNotIdle : Obligations.ValueSlotsAreLockedWhileNotIdle := by
  intro s t hr hb h
  have e := step_rrEnds hr h hb
  exact ⟨e.rrVal0.trans (rrStep_rrVal0 s (quiet s)), e.rrVal1.trans (rrStep_rrVal1 s (quiet s))⟩

/-- Settles O56, by what pulses in the access and in the RR's own step; without a pulse OUT stays and the trace gains nothing. -/
theorem deviceWritesComeOnlyFromTheRr : Obligations.DeviceWritesComeOnlyFromTheRr := by
  intro s t hr h
  refine ⟨step_pulse hr h, fun hp => ⟨step_out_of_no_pulse hr h hp, ?_⟩⟩
  simp [step_devWrites_no_reset hr h, hp]

/-- Settles O57: the accepting cycle, the seven dwells down to frame 0, the dwell of frame 0 and the pause, with the device write each makes. -/
theorem showMakesNineWritesOnTime : Obligations.ShowMakesNineWritesOnTime := by
  intro s slot hz hd hidle hcmd v D P hn hc
  have htotal : 8 * D + P + 1 = 1 + (7 * D + (D + P)) := by omega
  rw [htotal] at hn hc ⊢
  have hclk : s.pins.clkHz = hz := hc 0 (by omega)
  obtain ⟨s1, hstep, hframe7, writes7⟩ := showStarts hd hidle hcmd (noResetFor_now (noResetFor_mono hn (Nat.le_add_right 1 _))) hclk
  have run1 := reaches_one hstep
  have hn1 := noResetFor_after run1 hn
  have hc1 := clockFor_after run1 hc
  obtain ⟨s2, run2, hframe0, writes0⟩ := hframe7.lastFrame (i := 7) rfl (by decide)
    (noResetFor_mono hn1 (Nat.le_add_right _ _)) (clockFor_mono hc1 (Nat.le_add_right _ _))
  have hn2 := noResetFor_after run2 hn1
  obtain ⟨s3, run3, hpause, writesPause⟩ := hframe0.beginPause (noResetFor_mono hn2 (Nat.le_add_right _ _))
    (clockFor_mono (clockFor_after run2 hc1) (Nat.le_add_right _ _))
  obtain ⟨t, run4, hidle', writesIdle⟩ := hpause.endPause (noResetFor_after run3 hn2)
  refine ⟨t, reaches_trans run1 (reaches_trans run2 (reaches_trans run3 run4)), hidle', ?_⟩
  have hcycle : s.cycle + 8 * D + P = s.cycle + 7 * D + D + P := by omega
  rw [hcycle, writesIdle, writesPause, writes0, writes7, frameWrites_seven, List.append_assoc, List.append_assoc]
  rfl

/-- Settles O58: `phys` undoes itself, and the bytes in their places are the value. -/
theorem framesRebuildTheValue : Obligations.FramesRebuildTheValue := by
  intro p v
  simp only [phys_phys]
  exact sum_frameBytes v

/-- Settles O24: the two branches of `execRrIdle`. -/
theorem rrIdleWritesTheIdlePattern : Obligations.RrIdleWritesTheIdlePattern :=
  ⟨rfl, fun _ => ⟨fun hidle => if_pos hidle, fun hbusy => if_neg hbusy⟩⟩

/-- Settles O25: the two branches of `execRrShow`. -/
theorem rrShowWritesFrameSeven : Obligations.RrShowWritesFrameSeven :=
  ⟨rfl, rfl, fun _ _ => ⟨fun hidle => if_pos hidle, fun hbusy => if_neg hbusy⟩⟩

/-- Settles O26: the two branches of `execRrSeq`. -/
theorem rrSeqStartsAtSlotZero : Obligations.RrSeqStartsAtSlotZero :=
  ⟨rfl, rfl, rfl, rfl, fun _ _ _ => ⟨fun hidle => if_pos hidle, fun hbusy => if_neg hbusy⟩⟩

end Sys2Proof.Machine
end

section
/-!
SUPPORT. The end of a reporter run (R163, R165, R167): the pattern of the done write, the exit of the done delay, and the halted RR, which no
cycle without reset changes.
-/

namespace Sys2Proof.Machine

/-- The done pattern as the literal byte of its polarity (R136). -/
theorem donePattern_eq_ite (p : Params) : donePattern p = if p.activeLow then 0x00#8 else 0xFF#8 := by
  unfold donePattern phys
  split <;> rfl

theorem step_exits_doneWait {s t : State} (hr : s.pins.rst = false) (h : step s = .next t) (hs : s.rrState = .doneWait)
    (ht : s.rrTimer = 0#64) : RrEnds (exitDoneWait s (quiet s)) t := by
  have hends := step_exits hr h (by rw [hs]; rfl) ht
  simpa only [rrExit, hs] using hends

/-- A halted RR makes no step of its own, so a cycle leaves it as it is, whatever the host does (R167). -/
theorem step_halted {s t : State} (hr : s.pins.rst = false) (h : step s = .next t) (hs : s.rrState = .halted) :
    RrEnds (quiet s) t := by
  have hends := step_rrEnds hr h (by rw [hs]; nofun)
  rwa [rrStep_no_hold (by rw [hs]; rfl)] at hends

/-- After `k` cycles of a halt: the RR's registers and OUT are those of the start, and no device write was made. -/
structure HaltedFor (k : Nat) (s t : State) : Prop where
  run : reaches s k t
  display : RrAgree t s
  writes : devWrites t.trace = devWrites s.trace

/-- A halt lasts as long as no reset comes, by induction on the number of cycles (R167). -/
theorem exists_haltedFor (k : Nat) {s : State} (hd : fsmDefined s = true) (hs : s.rrState = .halted) (hn : noResetFor s k) :
    ∃ t, HaltedFor k s t := by
  induction k generalizing s with
  | zero => exact ⟨s, reaches_zero.mpr rfl, RrAgree.refl s, rfl⟩
  | succ k ih =>
    obtain ⟨u, hu⟩ := step_answers hd
    have hr := noResetFor_now hn
    have e := step_halted hr hu hs
    have hpulse : u.outputs.outWe = false := e.pulse
    obtain ⟨t, halted⟩ := ih (step_defined hu) (e.rrState.trans hs) (noResetFor_succ hn hu)
    refine ⟨t, (reaches_succ hu).mpr halted.run, halted.display.trans { e.toRrAgree with }, ?_⟩
    rw [halted.writes, step_devWrites_no_reset hr hu, hpulse]
    exact List.append_nil _

end Sys2Proof.Machine
end

section
/-!
CERTIFICATES. The statements of 43_rr_oneshot.md: the command RR_DONE (R163), the exit of the done delay (R165) and the permanent halt (R167).
-/

namespace Sys2Proof.Machine

/-- Settles O51: the exit of the done delay changes the RR's state alone, and the expired timer stays 0. -/
theorem doneDelayEndsInHalt : Obligations.DoneDelayEndsInHalt := by
  intro s hr hd hs ht
  obtain ⟨t, h⟩ := step_answers hd
  have e := step_exits_doneWait hr h hs ht
  exact ⟨t, h, e.rrState, e.rrTimer.trans ht, e.out, e.pulse, e.rrFrame, e.rrVidx, e.rrLast, e.rrLoop, e.rrVal0, e.rrVal1⟩

/-- Settles O53, by induction on the number of cycles in `exists_haltedFor`. -/
theorem haltIsPermanentUntilReset : Obligations.HaltIsPermanentUntilReset := by
  intro n s hd hs hn
  obtain ⟨t, run, display, writes⟩ := exists_haltedFor n hd hs hn
  exact ⟨t, run, display.rrState.trans hs, display.out, display.rrTimer, display.rrVal0, display.rrVal1, writes⟩

/-- Settles O27: the two branches of `execRrDone`, with the done pattern as a literal byte. -/
theorem rrDoneWritesTheDonePattern : Obligations.RrDoneWritesTheDonePattern := by
  refine ⟨rfl, fun s => ⟨fun hidle => ?_, fun hbusy => if_neg hbusy⟩⟩
  rw [← donePattern_eq_ite]
  exact if_pos hidle

end Sys2Proof.Machine
end

section
/-!
CERTIFICATES. The statements of 44_control.md: the commands that belong to no unit, NOP (R171) and CLR_STATUS (R172), and the illegal command
words (R173). The model's `witness_illegal_word` holds a word that meets the hypothesis of R173.
-/

namespace Sys2Proof.Machine

/-- Settles O19: the effect of NOP is `respondWrite` alone. -/
theorem nopLeavesEveryRegister : Obligations.NopLeavesEveryRegister := by
  refine ⟨rfl, fun s => ?_⟩
  calc exec .nop s = .next (respondWrite s) := rfl
    _ = .next { s with outputs := Outputs.quiet } := rfl

/-- Settles O20: the effect of CLR_STATUS is `clearErrors` after `respondWrite`, with no look at either unit's state. -/
theorem clrStatusClearsBothStickyFlags : Obligations.ClrStatusClearsBothStickyFlags := by
  refine ⟨rfl, fun s => ?_⟩
  calc exec .clrStatus s = .next (clearErrors (respondWrite s)) := rfl
    _ = .next { s with errBusy := false, errIllegal := false, outputs := Outputs.quiet } := rfl

/-- Settles O21: the effect of ILLEGAL is `setErrIllegal` after `respondWrite`, and a write to CMD issues ILLEGAL for a word that R69 rejects. -/
theorem illegalWordSetsOnlyErrIllegal : Obligations.IllegalWordSetsOnlyErrIllegal := by
  intro w s hillegal
  have hexec : exec (.illegal w) s = .next { s with errIllegal := true, outputs := Outputs.quiet } := rfl
  obtain ⟨_, hissues, _⟩ := writeToCmdIssuesTheDecodedCommand w s
  refine ⟨hexec, ?_⟩
  rw [hissues, decodeCommand_of_illegalWord hillegal]
  exact hexec

end Sys2Proof.Machine
end

section
/-!
SUPPORT. A reset episode (R201, R202, R203): a cycle in reset records a device write only when the next one is without reset, and the registers
at their reset values assemble a STATUS word that shows the build's polarity alone.
-/

namespace Sys2Proof.Machine

/-- A run of one more cycle ends with a step that answers its last state. -/
theorem reaches_succ_last {s t : State} {n : Nat} (h : reaches s (n + 1) t) : ∃ u, reaches s n u ∧ step u = .next t := by
  induction n generalizing s with
  | zero =>
    obtain ⟨u, hu, hrun⟩ := reaches_succ_iff.mp h
    obtain rfl := reaches_zero.mp hrun
    exact ⟨s, reaches_zero.mpr rfl, hu⟩
  | succ n ih =>
    obtain ⟨w, hw, hrun⟩ := reaches_succ_iff.mp h
    obtain ⟨u, hfirst, hlast⟩ := ih hrun
    exact ⟨u, (reaches_succ hw).mpr hfirst, hlast⟩

/-- A step in reset records IDLE_PATTERN when it is the last of its episode, and no device write otherwise (R202). -/
theorem step_reset_devWrites {s t : State} (hr : s.pins.rst = true) (h : step s = .next t) :
    devWrites t.trace = devWrites s.trace ++ (if (pinsAhead s 1).rst then [] else [(s.cycle, idlePattern s.params)]) := by
  obtain ⟨_, hpulse, _⟩ := step_reset_outputs hr h
  obtain ⟨_, hpins, _⟩ := step_environment h
  have hnext : nextPins s = pinsAhead s 1 := hpins.symm.trans (step_pinsAhead h 0)
  simp [step_devWrites h, devWrites_releaseEvents, hpulse, hr, hnext]

/-- A reset episode records one device write, in its last cycle, by induction on the cycles before that one (R202). -/
theorem exists_resetEpisode (n : Nat) {s : State} (hd : fsmDefined s = true) (hhigh : ∀ k ≤ n, (pinsAhead s k).rst = true)
    (hlow : (pinsAhead s (n + 1)).rst = false) :
    ∃ t, reaches s (n + 1) t ∧ devWrites t.trace = devWrites s.trace ++ [(s.cycle + n, idlePattern s.params)] := by
  induction n generalizing s with
  | zero =>
    obtain ⟨t, ht⟩ := step_answers hd
    have hwrites := step_reset_devWrites (hhigh 0 le_rfl) ht
    rw [hlow] at hwrites
    exact ⟨t, reaches_one ht, hwrites⟩
  | succ n ih =>
    obtain ⟨u, hu⟩ := step_answers hd
    have hnone := step_reset_devWrites (hhigh 0 (Nat.zero_le _)) hu
    rw [hhigh 1 (by omega), if_pos rfl, List.append_nil] at hnone
    obtain ⟨hcycle, _, hparams⟩ := step_environment hu
    obtain ⟨t, hrun, hwrites⟩ := ih (step_defined hu)
      (fun k hk => by rw [step_pinsAhead hu]; exact hhigh (k + 1) (by omega)) (by rwa [step_pinsAhead hu])
    refine ⟨t, (reaches_succ hu).mpr hrun, ?_⟩
    rw [hwrites, hnone, hcycle, hparams, Nat.add_right_comm, Nat.add_assoc]

/-- With every register at its reset value STATUS reads `ACTIVE_LOW << 17` and nothing else, in every build (R203). -/
theorem statusWord_resetRegisters (s : State) :
    statusWord (resetRegisters s) = if s.params.activeLow then 0x00020000#32 else 0x00000000#32 := by
  cases hlow : s.params.activeLow <;>
    simp [statusWord, resetRegisters, wcrBusy, rrBusy, rrHolds, wcrCode, rrCode, kindCode, hlow]

/-- The state after reset has every register at its reset value (R203). -/
theorem resetRegisters_reset : resetRegisters State.reset = State.reset := rfl

end Sys2Proof.Machine
end

section
/-!
CERTIFICATES. The statements of 70_reset_and_hazards.md: the one device write of a reset episode (R202) and the state after reset (R203).
-/

namespace Sys2Proof.Machine

/-- Settles O13: the write is that of `exists_resetEpisode`, and the last step of each run in the episode is a step in reset (R201). -/
theorem resetEpisodeRecordsOneIdleWrite : Obligations.ResetEpisodeRecordsOneIdleWrite := by
  intro n s hd hhigh hlow
  refine ⟨exists_resetEpisode n hd hhigh hlow, fun k t hpos hk hrun => ?_⟩
  obtain ⟨j, rfl⟩ := Nat.exists_eq_add_one.mpr hpos
  obtain ⟨u, hfirst, hlast⟩ := reaches_succ_last hrun
  obtain ⟨_, hparams, hpins, _⟩ := reaches_environment hfirst
  have hr : u.pins.rst = true := (congrArg Pins.rst (hpins 0)).trans (hhigh j (by omega))
  obtain ⟨_, hpulse, hout⟩ := step_reset_outputs hr hlast
  exact ⟨hparams ▸ hout, hpulse⟩

/-- Settles O14: the registers stand at their reset values, and with both encodings defined a step answers whatever access is presented. -/
theorem stateAfterReset : Obligations.StateAfterReset := by
  have hstatus := statusWord_resetRegisters State.reset
  rw [resetRegisters_reset] at hstatus
  exact ⟨rfl, rfl, rfl, rfl, rfl, rfl, rfl, rfl, hstatus, rfl, fun _ => step_answers rfl⟩

end Sys2Proof.Machine
end
